-- ==== Sys2Proof/Word.lean ====
section
/-! DEFINITION. The word types of the machine (00_scope.md R5, R7): an 8-bit byte and a 16-bit word. -/

namespace Sys2Proof

/-- `u8` of R7: the width of a general register and of the data bus (R5). -/
abbrev Byte := BitVec 8

/-- `u16` of R7: the width of `SP`, `PC`, a register pair and an address (R5). -/
abbrev Word := BitVec 16

end Sys2Proof
end

