-- ==== Sys2Proof/WellFormed.lean ====
section
/-! DEFINITION. Which terms of `Instr` are instructions of the machine. Operand widths are in the types, so one check
is left: the byte of `undefined` is one of the eleven unassigned bytes (30_encoding.md R138). -/

namespace Sys2Proof

/-- The eleven primary opcode bytes that select no instruction (R138). -/
def undefinedBytes : List Byte :=
  [0xD3#8, 0xDB#8, 0xDD#8, 0xE3#8, 0xE4#8, 0xEB#8, 0xEC#8, 0xED#8, 0xF4#8, 0xFC#8, 0xFD#8]

/-- An instruction the encoding can express. -/
def Instr.wellFormed : Instr → Bool
  | .undefined op => undefinedBytes.contains op
  | _ => true

end Sys2Proof
end

