-- ==== Sys2Proof/Decode.lean ====
section
/-! DEFINITION. Decoding bytes and encoding instructions (30_encoding.md R130 to R141). The decoder follows the field
tables of R131, R133 and R135: the fields `x`, `y`, `z` of the opcode byte select a family and the family's own
selection picks the constructor. It is total: every list of bytes gives an instruction and its length, or a named
reason why it gives none. The encoder writes each instruction's bytes from the grids of R134 and R135, opcode by
opcode, independently of the field tables. -/

namespace Sys2Proof

/-! The families of R133 and R135: from operand codes to constructors. -/

/-- `LD r,r'` (40_load8.md R160). -/
def Instr.ldRR : Reg8 → Reg8 → Instr
  | .b, .b => .ld_B_B
  | .b, .c => .ld_B_C
  | .b, .d => .ld_B_D
  | .b, .e => .ld_B_E
  | .b, .h => .ld_B_H
  | .b, .l => .ld_B_L
  | .b, .a => .ld_B_A
  | .c, .b => .ld_C_B
  | .c, .c => .ld_C_C
  | .c, .d => .ld_C_D
  | .c, .e => .ld_C_E
  | .c, .h => .ld_C_H
  | .c, .l => .ld_C_L
  | .c, .a => .ld_C_A
  | .d, .b => .ld_D_B
  | .d, .c => .ld_D_C
  | .d, .d => .ld_D_D
  | .d, .e => .ld_D_E
  | .d, .h => .ld_D_H
  | .d, .l => .ld_D_L
  | .d, .a => .ld_D_A
  | .e, .b => .ld_E_B
  | .e, .c => .ld_E_C
  | .e, .d => .ld_E_D
  | .e, .e => .ld_E_E
  | .e, .h => .ld_E_H
  | .e, .l => .ld_E_L
  | .e, .a => .ld_E_A
  | .h, .b => .ld_H_B
  | .h, .c => .ld_H_C
  | .h, .d => .ld_H_D
  | .h, .e => .ld_H_E
  | .h, .h => .ld_H_H
  | .h, .l => .ld_H_L
  | .h, .a => .ld_H_A
  | .l, .b => .ld_L_B
  | .l, .c => .ld_L_C
  | .l, .d => .ld_L_D
  | .l, .e => .ld_L_E
  | .l, .h => .ld_L_H
  | .l, .l => .ld_L_L
  | .l, .a => .ld_L_A
  | .a, .b => .ld_A_B
  | .a, .c => .ld_A_C
  | .a, .d => .ld_A_D
  | .a, .e => .ld_A_E
  | .a, .h => .ld_A_H
  | .a, .l => .ld_A_L
  | .a, .a => .ld_A_A

/-- `LD r,d8` (40_load8.md R161). -/
def Instr.ldRImm : Reg8 → Byte → Instr
  | .b, v => .ld_B_d8 v
  | .c, v => .ld_C_d8 v
  | .d, v => .ld_D_d8 v
  | .e, v => .ld_E_d8 v
  | .h, v => .ld_H_d8 v
  | .l, v => .ld_L_d8 v
  | .a, v => .ld_A_d8 v

/-- `LD r,(HL)` (40_load8.md R162). -/
def Instr.ldRAtHL : Reg8 → Instr
  | .b => .ld_B_atHL
  | .c => .ld_C_atHL
  | .d => .ld_D_atHL
  | .e => .ld_E_atHL
  | .h => .ld_H_atHL
  | .l => .ld_L_atHL
  | .a => .ld_A_atHL

/-- `LD (HL),r` (40_load8.md R163). -/
def Instr.ldAtHLR : Reg8 → Instr
  | .b => .ld_atHL_B
  | .c => .ld_atHL_C
  | .d => .ld_atHL_D
  | .e => .ld_atHL_E
  | .h => .ld_atHL_H
  | .l => .ld_atHL_L
  | .a => .ld_atHL_A

/-- `alu A,r` (42_alu8.md R206, register form). -/
def Instr.aluR : AluOp → Reg8 → Instr
  | .add, .b => .add_A_B
  | .add, .c => .add_A_C
  | .add, .d => .add_A_D
  | .add, .e => .add_A_E
  | .add, .h => .add_A_H
  | .add, .l => .add_A_L
  | .add, .a => .add_A_A
  | .adc, .b => .adc_A_B
  | .adc, .c => .adc_A_C
  | .adc, .d => .adc_A_D
  | .adc, .e => .adc_A_E
  | .adc, .h => .adc_A_H
  | .adc, .l => .adc_A_L
  | .adc, .a => .adc_A_A
  | .sub, .b => .sub_B
  | .sub, .c => .sub_C
  | .sub, .d => .sub_D
  | .sub, .e => .sub_E
  | .sub, .h => .sub_H
  | .sub, .l => .sub_L
  | .sub, .a => .sub_A
  | .sbc, .b => .sbc_A_B
  | .sbc, .c => .sbc_A_C
  | .sbc, .d => .sbc_A_D
  | .sbc, .e => .sbc_A_E
  | .sbc, .h => .sbc_A_H
  | .sbc, .l => .sbc_A_L
  | .sbc, .a => .sbc_A_A
  | .and, .b => .and_B
  | .and, .c => .and_C
  | .and, .d => .and_D
  | .and, .e => .and_E
  | .and, .h => .and_H
  | .and, .l => .and_L
  | .and, .a => .and_A
  | .xor, .b => .xor_B
  | .xor, .c => .xor_C
  | .xor, .d => .xor_D
  | .xor, .e => .xor_E
  | .xor, .h => .xor_H
  | .xor, .l => .xor_L
  | .xor, .a => .xor_A
  | .or, .b => .or_B
  | .or, .c => .or_C
  | .or, .d => .or_D
  | .or, .e => .or_E
  | .or, .h => .or_H
  | .or, .l => .or_L
  | .or, .a => .or_A
  | .cp, .b => .cp_B
  | .cp, .c => .cp_C
  | .cp, .d => .cp_D
  | .cp, .e => .cp_E
  | .cp, .h => .cp_H
  | .cp, .l => .cp_L
  | .cp, .a => .cp_A

/-- `alu A,(HL)` (42_alu8.md R206, memory form). -/
def Instr.aluAtHL : AluOp → Instr
  | .add => .add_A_atHL
  | .adc => .adc_A_atHL
  | .sub => .sub_atHL
  | .sbc => .sbc_A_atHL
  | .and => .and_atHL
  | .xor => .xor_atHL
  | .or => .or_atHL
  | .cp => .cp_atHL

/-- `alu A,d8` (42_alu8.md R206, immediate form). -/
def Instr.aluImm : AluOp → Byte → Instr
  | .add, v => .add_A_d8 v
  | .adc, v => .adc_A_d8 v
  | .sub, v => .sub_d8 v
  | .sbc, v => .sbc_A_d8 v
  | .and, v => .and_d8 v
  | .xor, v => .xor_d8 v
  | .or, v => .or_d8 v
  | .cp, v => .cp_d8 v

/-- `INC r` (42_alu8.md R198). -/
def Instr.incR : Reg8 → Instr
  | .b => .inc_B
  | .c => .inc_C
  | .d => .inc_D
  | .e => .inc_E
  | .h => .inc_H
  | .l => .inc_L
  | .a => .inc_A

/-- `DEC r` (42_alu8.md R200). -/
def Instr.decR : Reg8 → Instr
  | .b => .dec_B
  | .c => .dec_C
  | .d => .dec_D
  | .e => .dec_E
  | .h => .dec_H
  | .l => .dec_L
  | .a => .dec_A

/-- The pairs `rp` (R131): `BC DE HL SP`. -/
inductive Rp where
  | bc
  | de
  | hl
  | sp
  deriving DecidableEq, Repr

/-- The pairs `rp2` (R131): `BC DE HL AF`. -/
inductive Rp2 where
  | bc
  | de
  | hl
  | af
  deriving DecidableEq, Repr

/-- The register a code of `rp` names. -/
def Rp.pair : Rp → Pair
  | .bc => .bc
  | .de => .de
  | .hl => .hl
  | .sp => .sp

/-- The register a code of `rp2` names. -/
def Rp2.pair : Rp2 → Pair
  | .bc => .bc
  | .de => .de
  | .hl => .hl
  | .af => .af

/-- `LD rp,d16` (41_load16.md R180). -/
def Instr.ldRpImm : Rp → Word → Instr
  | .bc, v => .ld_BC_d16 v
  | .de, v => .ld_DE_d16 v
  | .hl, v => .ld_HL_d16 v
  | .sp, v => .ld_SP_d16 v

/-- `ADD HL,rp` (43_alu16.md R210). -/
def Instr.addHLRp : Rp → Instr
  | .bc => .add_HL_BC
  | .de => .add_HL_DE
  | .hl => .add_HL_HL
  | .sp => .add_HL_SP

/-- `INC rp` (43_alu16.md R211). -/
def Instr.incRp : Rp → Instr
  | .bc => .inc_BC
  | .de => .inc_DE
  | .hl => .inc_HL
  | .sp => .inc_SP

/-- `DEC rp` (43_alu16.md R212). -/
def Instr.decRp : Rp → Instr
  | .bc => .dec_BC
  | .de => .dec_DE
  | .hl => .dec_HL
  | .sp => .dec_SP

/-- `PUSH rp2` (41_load16.md R184). -/
def Instr.pushRp2 : Rp2 → Instr
  | .bc => .push_BC
  | .de => .push_DE
  | .hl => .push_HL
  | .af => .push_AF

/-- `POP rp2` (41_load16.md R185, R186). -/
def Instr.popRp2 : Rp2 → Instr
  | .bc => .pop_BC
  | .de => .pop_DE
  | .hl => .pop_HL
  | .af => .pop_AF

/-- `JR cc,e8` (45_control.md R244). -/
def Instr.jrCc : Cond → Byte → Instr
  | .nz, e => .jr_NZ_e8 e
  | .z, e => .jr_Z_e8 e
  | .nc, e => .jr_NC_e8 e
  | .c, e => .jr_C_e8 e

/-- `JP cc,a16` (45_control.md R241). -/
def Instr.jpCc : Cond → Word → Instr
  | .nz, t => .jp_NZ_a16 t
  | .z, t => .jp_Z_a16 t
  | .nc, t => .jp_NC_a16 t
  | .c, t => .jp_C_a16 t

/-- `CALL cc,a16` (45_control.md R246). -/
def Instr.callCc : Cond → Word → Instr
  | .nz, t => .call_NZ_a16 t
  | .z, t => .call_Z_a16 t
  | .nc, t => .call_NC_a16 t
  | .c, t => .call_C_a16 t

/-- `RET cc` (45_control.md R248). -/
def Instr.retCc : Cond → Instr
  | .nz => .ret_NZ
  | .z => .ret_Z
  | .nc => .ret_NC
  | .c => .ret_C

/-- The eight values of a 3-bit field used as a number: the bit number `b` of `BIT`/`RES`/`SET`, the `y` of `RST`. -/
inductive Oct where
  | n0
  | n1
  | n2
  | n3
  | n4
  | n5
  | n6
  | n7
  deriving DecidableEq, Repr

/-- The number an `Oct` stands for. -/
def Oct.toNat : Oct → Nat
  | .n0 => 0
  | .n1 => 1
  | .n2 => 2
  | .n3 => 3
  | .n4 => 4
  | .n5 => 5
  | .n6 => 6
  | .n7 => 7

/-- `RST 8*y` (45_control.md R253). -/
def Instr.rst : Oct → Instr
  | .n0 => .rst_00
  | .n1 => .rst_08
  | .n2 => .rst_10
  | .n3 => .rst_18
  | .n4 => .rst_20
  | .n5 => .rst_28
  | .n6 => .rst_30
  | .n7 => .rst_38

/-- The rotates and shifts of the extended table (44_rotate_bit.md R224 to R231). -/
def Instr.rot : RotOp → Operand8 → Instr
  | .rlc, .reg .b => .rlc_B
  | .rlc, .reg .c => .rlc_C
  | .rlc, .reg .d => .rlc_D
  | .rlc, .reg .e => .rlc_E
  | .rlc, .reg .h => .rlc_H
  | .rlc, .reg .l => .rlc_L
  | .rlc, .reg .a => .rlc_A
  | .rlc, .atHL => .rlc_atHL
  | .rrc, .reg .b => .rrc_B
  | .rrc, .reg .c => .rrc_C
  | .rrc, .reg .d => .rrc_D
  | .rrc, .reg .e => .rrc_E
  | .rrc, .reg .h => .rrc_H
  | .rrc, .reg .l => .rrc_L
  | .rrc, .reg .a => .rrc_A
  | .rrc, .atHL => .rrc_atHL
  | .rl, .reg .b => .rl_B
  | .rl, .reg .c => .rl_C
  | .rl, .reg .d => .rl_D
  | .rl, .reg .e => .rl_E
  | .rl, .reg .h => .rl_H
  | .rl, .reg .l => .rl_L
  | .rl, .reg .a => .rl_A
  | .rl, .atHL => .rl_atHL
  | .rr, .reg .b => .rr_B
  | .rr, .reg .c => .rr_C
  | .rr, .reg .d => .rr_D
  | .rr, .reg .e => .rr_E
  | .rr, .reg .h => .rr_H
  | .rr, .reg .l => .rr_L
  | .rr, .reg .a => .rr_A
  | .rr, .atHL => .rr_atHL
  | .sla, .reg .b => .sla_B
  | .sla, .reg .c => .sla_C
  | .sla, .reg .d => .sla_D
  | .sla, .reg .e => .sla_E
  | .sla, .reg .h => .sla_H
  | .sla, .reg .l => .sla_L
  | .sla, .reg .a => .sla_A
  | .sla, .atHL => .sla_atHL
  | .sra, .reg .b => .sra_B
  | .sra, .reg .c => .sra_C
  | .sra, .reg .d => .sra_D
  | .sra, .reg .e => .sra_E
  | .sra, .reg .h => .sra_H
  | .sra, .reg .l => .sra_L
  | .sra, .reg .a => .sra_A
  | .sra, .atHL => .sra_atHL
  | .swap, .reg .b => .swap_B
  | .swap, .reg .c => .swap_C
  | .swap, .reg .d => .swap_D
  | .swap, .reg .e => .swap_E
  | .swap, .reg .h => .swap_H
  | .swap, .reg .l => .swap_L
  | .swap, .reg .a => .swap_A
  | .swap, .atHL => .swap_atHL
  | .srl, .reg .b => .srl_B
  | .srl, .reg .c => .srl_C
  | .srl, .reg .d => .srl_D
  | .srl, .reg .e => .srl_E
  | .srl, .reg .h => .srl_H
  | .srl, .reg .l => .srl_L
  | .srl, .reg .a => .srl_A
  | .srl, .atHL => .srl_atHL

/-- `BIT b,t` (44_rotate_bit.md R232). -/
def Instr.bit : Oct → Operand8 → Instr
  | .n0, .reg .b => .bit_0_B
  | .n0, .reg .c => .bit_0_C
  | .n0, .reg .d => .bit_0_D
  | .n0, .reg .e => .bit_0_E
  | .n0, .reg .h => .bit_0_H
  | .n0, .reg .l => .bit_0_L
  | .n0, .reg .a => .bit_0_A
  | .n0, .atHL => .bit_0_atHL
  | .n1, .reg .b => .bit_1_B
  | .n1, .reg .c => .bit_1_C
  | .n1, .reg .d => .bit_1_D
  | .n1, .reg .e => .bit_1_E
  | .n1, .reg .h => .bit_1_H
  | .n1, .reg .l => .bit_1_L
  | .n1, .reg .a => .bit_1_A
  | .n1, .atHL => .bit_1_atHL
  | .n2, .reg .b => .bit_2_B
  | .n2, .reg .c => .bit_2_C
  | .n2, .reg .d => .bit_2_D
  | .n2, .reg .e => .bit_2_E
  | .n2, .reg .h => .bit_2_H
  | .n2, .reg .l => .bit_2_L
  | .n2, .reg .a => .bit_2_A
  | .n2, .atHL => .bit_2_atHL
  | .n3, .reg .b => .bit_3_B
  | .n3, .reg .c => .bit_3_C
  | .n3, .reg .d => .bit_3_D
  | .n3, .reg .e => .bit_3_E
  | .n3, .reg .h => .bit_3_H
  | .n3, .reg .l => .bit_3_L
  | .n3, .reg .a => .bit_3_A
  | .n3, .atHL => .bit_3_atHL
  | .n4, .reg .b => .bit_4_B
  | .n4, .reg .c => .bit_4_C
  | .n4, .reg .d => .bit_4_D
  | .n4, .reg .e => .bit_4_E
  | .n4, .reg .h => .bit_4_H
  | .n4, .reg .l => .bit_4_L
  | .n4, .reg .a => .bit_4_A
  | .n4, .atHL => .bit_4_atHL
  | .n5, .reg .b => .bit_5_B
  | .n5, .reg .c => .bit_5_C
  | .n5, .reg .d => .bit_5_D
  | .n5, .reg .e => .bit_5_E
  | .n5, .reg .h => .bit_5_H
  | .n5, .reg .l => .bit_5_L
  | .n5, .reg .a => .bit_5_A
  | .n5, .atHL => .bit_5_atHL
  | .n6, .reg .b => .bit_6_B
  | .n6, .reg .c => .bit_6_C
  | .n6, .reg .d => .bit_6_D
  | .n6, .reg .e => .bit_6_E
  | .n6, .reg .h => .bit_6_H
  | .n6, .reg .l => .bit_6_L
  | .n6, .reg .a => .bit_6_A
  | .n6, .atHL => .bit_6_atHL
  | .n7, .reg .b => .bit_7_B
  | .n7, .reg .c => .bit_7_C
  | .n7, .reg .d => .bit_7_D
  | .n7, .reg .e => .bit_7_E
  | .n7, .reg .h => .bit_7_H
  | .n7, .reg .l => .bit_7_L
  | .n7, .reg .a => .bit_7_A
  | .n7, .atHL => .bit_7_atHL

/-- `RES b,t` (44_rotate_bit.md R233). -/
def Instr.res : Oct → Operand8 → Instr
  | .n0, .reg .b => .res_0_B
  | .n0, .reg .c => .res_0_C
  | .n0, .reg .d => .res_0_D
  | .n0, .reg .e => .res_0_E
  | .n0, .reg .h => .res_0_H
  | .n0, .reg .l => .res_0_L
  | .n0, .reg .a => .res_0_A
  | .n0, .atHL => .res_0_atHL
  | .n1, .reg .b => .res_1_B
  | .n1, .reg .c => .res_1_C
  | .n1, .reg .d => .res_1_D
  | .n1, .reg .e => .res_1_E
  | .n1, .reg .h => .res_1_H
  | .n1, .reg .l => .res_1_L
  | .n1, .reg .a => .res_1_A
  | .n1, .atHL => .res_1_atHL
  | .n2, .reg .b => .res_2_B
  | .n2, .reg .c => .res_2_C
  | .n2, .reg .d => .res_2_D
  | .n2, .reg .e => .res_2_E
  | .n2, .reg .h => .res_2_H
  | .n2, .reg .l => .res_2_L
  | .n2, .reg .a => .res_2_A
  | .n2, .atHL => .res_2_atHL
  | .n3, .reg .b => .res_3_B
  | .n3, .reg .c => .res_3_C
  | .n3, .reg .d => .res_3_D
  | .n3, .reg .e => .res_3_E
  | .n3, .reg .h => .res_3_H
  | .n3, .reg .l => .res_3_L
  | .n3, .reg .a => .res_3_A
  | .n3, .atHL => .res_3_atHL
  | .n4, .reg .b => .res_4_B
  | .n4, .reg .c => .res_4_C
  | .n4, .reg .d => .res_4_D
  | .n4, .reg .e => .res_4_E
  | .n4, .reg .h => .res_4_H
  | .n4, .reg .l => .res_4_L
  | .n4, .reg .a => .res_4_A
  | .n4, .atHL => .res_4_atHL
  | .n5, .reg .b => .res_5_B
  | .n5, .reg .c => .res_5_C
  | .n5, .reg .d => .res_5_D
  | .n5, .reg .e => .res_5_E
  | .n5, .reg .h => .res_5_H
  | .n5, .reg .l => .res_5_L
  | .n5, .reg .a => .res_5_A
  | .n5, .atHL => .res_5_atHL
  | .n6, .reg .b => .res_6_B
  | .n6, .reg .c => .res_6_C
  | .n6, .reg .d => .res_6_D
  | .n6, .reg .e => .res_6_E
  | .n6, .reg .h => .res_6_H
  | .n6, .reg .l => .res_6_L
  | .n6, .reg .a => .res_6_A
  | .n6, .atHL => .res_6_atHL
  | .n7, .reg .b => .res_7_B
  | .n7, .reg .c => .res_7_C
  | .n7, .reg .d => .res_7_D
  | .n7, .reg .e => .res_7_E
  | .n7, .reg .h => .res_7_H
  | .n7, .reg .l => .res_7_L
  | .n7, .reg .a => .res_7_A
  | .n7, .atHL => .res_7_atHL

/-- `SET b,t` (44_rotate_bit.md R234). -/
def Instr.set : Oct → Operand8 → Instr
  | .n0, .reg .b => .set_0_B
  | .n0, .reg .c => .set_0_C
  | .n0, .reg .d => .set_0_D
  | .n0, .reg .e => .set_0_E
  | .n0, .reg .h => .set_0_H
  | .n0, .reg .l => .set_0_L
  | .n0, .reg .a => .set_0_A
  | .n0, .atHL => .set_0_atHL
  | .n1, .reg .b => .set_1_B
  | .n1, .reg .c => .set_1_C
  | .n1, .reg .d => .set_1_D
  | .n1, .reg .e => .set_1_E
  | .n1, .reg .h => .set_1_H
  | .n1, .reg .l => .set_1_L
  | .n1, .reg .a => .set_1_A
  | .n1, .atHL => .set_1_atHL
  | .n2, .reg .b => .set_2_B
  | .n2, .reg .c => .set_2_C
  | .n2, .reg .d => .set_2_D
  | .n2, .reg .e => .set_2_E
  | .n2, .reg .h => .set_2_H
  | .n2, .reg .l => .set_2_L
  | .n2, .reg .a => .set_2_A
  | .n2, .atHL => .set_2_atHL
  | .n3, .reg .b => .set_3_B
  | .n3, .reg .c => .set_3_C
  | .n3, .reg .d => .set_3_D
  | .n3, .reg .e => .set_3_E
  | .n3, .reg .h => .set_3_H
  | .n3, .reg .l => .set_3_L
  | .n3, .reg .a => .set_3_A
  | .n3, .atHL => .set_3_atHL
  | .n4, .reg .b => .set_4_B
  | .n4, .reg .c => .set_4_C
  | .n4, .reg .d => .set_4_D
  | .n4, .reg .e => .set_4_E
  | .n4, .reg .h => .set_4_H
  | .n4, .reg .l => .set_4_L
  | .n4, .reg .a => .set_4_A
  | .n4, .atHL => .set_4_atHL
  | .n5, .reg .b => .set_5_B
  | .n5, .reg .c => .set_5_C
  | .n5, .reg .d => .set_5_D
  | .n5, .reg .e => .set_5_E
  | .n5, .reg .h => .set_5_H
  | .n5, .reg .l => .set_5_L
  | .n5, .reg .a => .set_5_A
  | .n5, .atHL => .set_5_atHL
  | .n6, .reg .b => .set_6_B
  | .n6, .reg .c => .set_6_C
  | .n6, .reg .d => .set_6_D
  | .n6, .reg .e => .set_6_E
  | .n6, .reg .h => .set_6_H
  | .n6, .reg .l => .set_6_L
  | .n6, .reg .a => .set_6_A
  | .n6, .atHL => .set_6_atHL
  | .n7, .reg .b => .set_7_B
  | .n7, .reg .c => .set_7_C
  | .n7, .reg .d => .set_7_D
  | .n7, .reg .e => .set_7_E
  | .n7, .reg .h => .set_7_H
  | .n7, .reg .l => .set_7_L
  | .n7, .reg .a => .set_7_A
  | .n7, .atHL => .set_7_atHL

/-! The fields of an opcode byte (R130, R131). -/

/-- Field `x`: bits 7:6. -/
def fieldX (op : Byte) : BitVec 2 := op.extractLsb' 6 2

/-- Field `y`: bits 5:3. -/
def fieldY (op : Byte) : BitVec 3 := op.extractLsb' 3 3

/-- Field `z`: bits 2:0. -/
def fieldZ (op : Byte) : BitVec 3 := op.extractLsb' 0 3

/-- Field `p`: bits 5:4. -/
def fieldP (op : Byte) : BitVec 2 := op.extractLsb' 4 2

/-- Field `q`: bit 3. -/
def fieldQ (op : Byte) : Bool := op.getLsbD 3

/-- The 8-bit operand of a 3-bit code (table `r` of R131). -/
def operand8Of (code : BitVec 3) : Operand8 :=
  match code.toNat with
  | 0 => .reg .b
  | 1 => .reg .c
  | 2 => .reg .d
  | 3 => .reg .e
  | 4 => .reg .h
  | 5 => .reg .l
  | 6 => .atHL
  | _ => .reg .a

/-- Table `rp` of R131. -/
def rpOf (code : BitVec 2) : Rp :=
  match code.toNat with
  | 0 => .bc
  | 1 => .de
  | 2 => .hl
  | _ => .sp

/-- Table `rp2` of R131. -/
def rp2Of (code : BitVec 2) : Rp2 :=
  match code.toNat with
  | 0 => .bc
  | 1 => .de
  | 2 => .hl
  | _ => .af

/-- Table `cc` of R131. -/
def condOf (code : BitVec 2) : Cond :=
  match code.toNat with
  | 0 => .nz
  | 1 => .z
  | 2 => .nc
  | _ => .c

/-- `alu[y]` of R133. -/
def aluOf (code : BitVec 3) : AluOp :=
  match code.toNat with
  | 0 => .add
  | 1 => .adc
  | 2 => .sub
  | 3 => .sbc
  | 4 => .and
  | 5 => .xor
  | 6 => .or
  | _ => .cp

/-- `rot[y]` of R135. -/
def rotOf (code : BitVec 3) : RotOp :=
  match code.toNat with
  | 0 => .rlc
  | 1 => .rrc
  | 2 => .rl
  | 3 => .rr
  | 4 => .sla
  | 5 => .sra
  | 6 => .swap
  | _ => .srl

/-- A 3-bit field as a number. -/
def octOf (code : BitVec 3) : Oct :=
  match code.toNat with
  | 0 => .n0
  | 1 => .n1
  | 2 => .n2
  | 3 => .n3
  | 4 => .n4
  | 5 => .n5
  | 6 => .n6
  | _ => .n7

/-- What a primary opcode byte selects: an instruction and the shape of its operand (the formats of R130), the
extended table, or nothing. -/
inductive Form where
  /-- Formats `OP` and `CB_OP`: no operand byte. -/
  | op (i : Instr)
  /-- Formats `OP_D8`, `OP_A8`, `OP_E8`, `OP_PAD8`: one operand byte. -/
  | byte (f : Byte → Instr)
  /-- Formats `OP_D16`, `OP_A16`: two operand bytes, the low one first. -/
  | word (f : Word → Instr)
  /-- The byte `0xCB`. -/
  | extended
  /-- The eleven bytes of R138. -/
  | unassigned

/-- Rows `x = 0` of R133. -/
def primary0 (op : Byte) : Form :=
  match (fieldZ op).toNat with
  | 0 =>
    match (fieldY op).toNat with
    | 0 => .op .nop
    | 1 => .word .ld_atA16_SP
    | 2 => .byte .stop
    | 3 => .byte .jr_e8
    | _ => .byte (Instr.jrCc (condOf ((fieldY op).extractLsb' 0 2)))
  | 1 => if fieldQ op then .op (Instr.addHLRp (rpOf (fieldP op))) else .word (Instr.ldRpImm (rpOf (fieldP op)))
  | 2 =>
    match (fieldY op).toNat with
    | 0 => .op .ld_atBC_A
    | 1 => .op .ld_A_atBC
    | 2 => .op .ld_atDE_A
    | 3 => .op .ld_A_atDE
    | 4 => .op .ld_atHLI_A
    | 5 => .op .ld_A_atHLI
    | 6 => .op .ld_atHLD_A
    | _ => .op .ld_A_atHLD
  | 3 => if fieldQ op then .op (Instr.decRp (rpOf (fieldP op))) else .op (Instr.incRp (rpOf (fieldP op)))
  | 4 =>
    match operand8Of (fieldY op) with
    | .reg r => .op (Instr.incR r)
    | .atHL => .op .inc_atHL
  | 5 =>
    match operand8Of (fieldY op) with
    | .reg r => .op (Instr.decR r)
    | .atHL => .op .dec_atHL
  | 6 =>
    match operand8Of (fieldY op) with
    | .reg r => .byte (Instr.ldRImm r)
    | .atHL => .byte .ld_atHL_d8
  | _ =>
    match (fieldY op).toNat with
    | 0 => .op .rlca
    | 1 => .op .rrca
    | 2 => .op .rla
    | 3 => .op .rra
    | 4 => .op .daa
    | 5 => .op .cpl
    | 6 => .op .scf
    | _ => .op .ccf

/-- Row `x = 1` of R133: `LD r,r'`, with `HALT` where both fields are 6. -/
def primary1 (op : Byte) : Form :=
  match operand8Of (fieldY op), operand8Of (fieldZ op) with
  | .reg dst, .reg src => .op (Instr.ldRR dst src)
  | .reg dst, .atHL => .op (Instr.ldRAtHL dst)
  | .atHL, .reg src => .op (Instr.ldAtHLR src)
  | .atHL, .atHL => .op .halt

/-- Row `x = 2` of R133: `alu[y] r[z]`. -/
def primary2 (op : Byte) : Form :=
  match operand8Of (fieldZ op) with
  | .reg r => .op (Instr.aluR (aluOf (fieldY op)) r)
  | .atHL => .op (Instr.aluAtHL (aluOf (fieldY op)))

/-- Rows `x = 3` of R133. -/
def primary3 (op : Byte) : Form :=
  match (fieldZ op).toNat with
  | 0 =>
    match (fieldY op).toNat with
    | 4 => .byte .ldh_atA8_A
    | 5 => .byte .add_SP_e8
    | 6 => .byte .ldh_A_atA8
    | 7 => .byte .ld_HL_SPe8
    | _ => .op (Instr.retCc (condOf ((fieldY op).extractLsb' 0 2)))
  | 1 =>
    if fieldQ op then
      match (fieldP op).toNat with
      | 0 => .op .ret
      | 1 => .op .reti
      | 2 => .op .jp_HL
      | _ => .op .ld_SP_HL
    else .op (Instr.popRp2 (rp2Of (fieldP op)))
  | 2 =>
    match (fieldY op).toNat with
    | 4 => .op .ld_atC_A
    | 5 => .word .ld_atA16_A
    | 6 => .op .ld_A_atC
    | 7 => .word .ld_A_atA16
    | _ => .word (Instr.jpCc (condOf ((fieldY op).extractLsb' 0 2)))
  | 3 =>
    match (fieldY op).toNat with
    | 0 => .word .jp_a16
    | 1 => .extended
    | 6 => .op .di
    | 7 => .op .ei
    | _ => .unassigned
  | 4 =>
    match (fieldY op).toNat with
    | 0 => .word (Instr.callCc .nz)
    | 1 => .word (Instr.callCc .z)
    | 2 => .word (Instr.callCc .nc)
    | 3 => .word (Instr.callCc .c)
    | _ => .unassigned
  | 5 =>
    if fieldQ op then
      match (fieldP op).toNat with
      | 0 => .word .call_a16
      | _ => .unassigned
    else .op (Instr.pushRp2 (rp2Of (fieldP op)))
  | 6 => .byte (Instr.aluImm (aluOf (fieldY op)))
  | _ => .op (Instr.rst (octOf (fieldY op)))

/-- The primary table (R133). -/
def primary (op : Byte) : Form :=
  match (fieldX op).toNat with
  | 0 => primary0 op
  | 1 => primary1 op
  | 2 => primary2 op
  | _ => primary3 op

/-- The extended table (R135): all 256 bytes are assigned. -/
def extended (op2 : Byte) : Instr :=
  match (fieldX op2).toNat with
  | 0 => Instr.rot (rotOf (fieldY op2)) (operand8Of (fieldZ op2))
  | 1 => Instr.bit (octOf (fieldY op2)) (operand8Of (fieldZ op2))
  | 2 => Instr.res (octOf (fieldY op2)) (operand8Of (fieldZ op2))
  | _ => Instr.set (octOf (fieldY op2)) (operand8Of (fieldZ op2))

/-- The length in bytes, a function of the first byte alone (R137). -/
def opLength (op : Byte) : Nat :=
  match primary op with
  | .op _ => 1
  | .byte _ => 2
  | .word _ => 3
  | .extended => 2
  | .unassigned => 1

/-- Decoding at an address whose three bytes are `b0`, `b1`, `b2` (R136, R141): the instruction and how many of the
bytes it takes. Total: an unassigned byte is the instruction `UNDEFINED`, whose meaning raises `FatalDecode`. -/
def decodeWindow (b0 b1 b2 : Byte) : Instr × Nat :=
  match primary b0 with
  | .op i => (i, 1)
  | .byte f => (f b1, 2)
  | .word f => (f (b2 ++ b1), 3)
  | .extended => (extended b1, 2)
  | .unassigned => (.undefined b0, 1)

/-- Why a list of bytes gives no instruction. -/
inductive DecodeError where
  /-- The list is empty. -/
  | noByte
  /-- The list ends before the operand bytes of the opcode `op`. -/
  | truncated (op : Byte)
  deriving DecidableEq, Repr

/-- Decoding a list of bytes: the instruction at its head and its length, or the reason why there is none. The prefix
byte with nothing after it is the table's row `PREFIX_CB`, whose length is 1 (R144; log entry 5). -/
def decode (bytes : List Byte) : Except DecodeError (Instr × Nat) :=
  match bytes with
  | [] => .error .noByte
  | b0 :: rest =>
    if b0 = 0xCB#8 ∧ rest = [] then .ok (.prefixCB, 1)
    else if rest.length + 1 < opLength b0 then .error (.truncated b0)
    else .ok (decodeWindow b0 (rest.getD 0 0#8) (rest.getD 1 0#8))

/-! The encoder: opcode bytes from the grids of R134 and R135, operand bytes as R136 places them. -/

/-- An opcode followed by a 16-bit operand, the low byte first (R136). -/
def opWord (op : Byte) (v : Word) : List Byte := [op, v.extractLsb' 0 8, v.extractLsb' 8 8]

/-- An extended instruction: the prefix, then the extended opcode (R135). -/
def opExt (op2 : Byte) : List Byte := [0xCB#8, op2]

/-- The bytes of an instruction. -/
def encode : Instr → List Byte
  | .nop => [0x00#8]
  | .ld_BC_d16 v => opWord 0x01#8 v
  | .ld_atBC_A => [0x02#8]
  | .inc_BC => [0x03#8]
  | .inc_B => [0x04#8]
  | .dec_B => [0x05#8]
  | .ld_B_d8 v => [0x06#8, v]
  | .rlca => [0x07#8]
  | .ld_atA16_SP v => opWord 0x08#8 v
  | .add_HL_BC => [0x09#8]
  | .ld_A_atBC => [0x0A#8]
  | .dec_BC => [0x0B#8]
  | .inc_C => [0x0C#8]
  | .dec_C => [0x0D#8]
  | .ld_C_d8 v => [0x0E#8, v]
  | .rrca => [0x0F#8]
  | .stop v => [0x10#8, v]
  | .ld_DE_d16 v => opWord 0x11#8 v
  | .ld_atDE_A => [0x12#8]
  | .inc_DE => [0x13#8]
  | .inc_D => [0x14#8]
  | .dec_D => [0x15#8]
  | .ld_D_d8 v => [0x16#8, v]
  | .rla => [0x17#8]
  | .jr_e8 v => [0x18#8, v]
  | .add_HL_DE => [0x19#8]
  | .ld_A_atDE => [0x1A#8]
  | .dec_DE => [0x1B#8]
  | .inc_E => [0x1C#8]
  | .dec_E => [0x1D#8]
  | .ld_E_d8 v => [0x1E#8, v]
  | .rra => [0x1F#8]
  | .jr_NZ_e8 v => [0x20#8, v]
  | .ld_HL_d16 v => opWord 0x21#8 v
  | .ld_atHLI_A => [0x22#8]
  | .inc_HL => [0x23#8]
  | .inc_H => [0x24#8]
  | .dec_H => [0x25#8]
  | .ld_H_d8 v => [0x26#8, v]
  | .daa => [0x27#8]
  | .jr_Z_e8 v => [0x28#8, v]
  | .add_HL_HL => [0x29#8]
  | .ld_A_atHLI => [0x2A#8]
  | .dec_HL => [0x2B#8]
  | .inc_L => [0x2C#8]
  | .dec_L => [0x2D#8]
  | .ld_L_d8 v => [0x2E#8, v]
  | .cpl => [0x2F#8]
  | .jr_NC_e8 v => [0x30#8, v]
  | .ld_SP_d16 v => opWord 0x31#8 v
  | .ld_atHLD_A => [0x32#8]
  | .inc_SP => [0x33#8]
  | .inc_atHL => [0x34#8]
  | .dec_atHL => [0x35#8]
  | .ld_atHL_d8 v => [0x36#8, v]
  | .scf => [0x37#8]
  | .jr_C_e8 v => [0x38#8, v]
  | .add_HL_SP => [0x39#8]
  | .ld_A_atHLD => [0x3A#8]
  | .dec_SP => [0x3B#8]
  | .inc_A => [0x3C#8]
  | .dec_A => [0x3D#8]
  | .ld_A_d8 v => [0x3E#8, v]
  | .ccf => [0x3F#8]
  | .ld_B_B => [0x40#8]
  | .ld_B_C => [0x41#8]
  | .ld_B_D => [0x42#8]
  | .ld_B_E => [0x43#8]
  | .ld_B_H => [0x44#8]
  | .ld_B_L => [0x45#8]
  | .ld_B_atHL => [0x46#8]
  | .ld_B_A => [0x47#8]
  | .ld_C_B => [0x48#8]
  | .ld_C_C => [0x49#8]
  | .ld_C_D => [0x4A#8]
  | .ld_C_E => [0x4B#8]
  | .ld_C_H => [0x4C#8]
  | .ld_C_L => [0x4D#8]
  | .ld_C_atHL => [0x4E#8]
  | .ld_C_A => [0x4F#8]
  | .ld_D_B => [0x50#8]
  | .ld_D_C => [0x51#8]
  | .ld_D_D => [0x52#8]
  | .ld_D_E => [0x53#8]
  | .ld_D_H => [0x54#8]
  | .ld_D_L => [0x55#8]
  | .ld_D_atHL => [0x56#8]
  | .ld_D_A => [0x57#8]
  | .ld_E_B => [0x58#8]
  | .ld_E_C => [0x59#8]
  | .ld_E_D => [0x5A#8]
  | .ld_E_E => [0x5B#8]
  | .ld_E_H => [0x5C#8]
  | .ld_E_L => [0x5D#8]
  | .ld_E_atHL => [0x5E#8]
  | .ld_E_A => [0x5F#8]
  | .ld_H_B => [0x60#8]
  | .ld_H_C => [0x61#8]
  | .ld_H_D => [0x62#8]
  | .ld_H_E => [0x63#8]
  | .ld_H_H => [0x64#8]
  | .ld_H_L => [0x65#8]
  | .ld_H_atHL => [0x66#8]
  | .ld_H_A => [0x67#8]
  | .ld_L_B => [0x68#8]
  | .ld_L_C => [0x69#8]
  | .ld_L_D => [0x6A#8]
  | .ld_L_E => [0x6B#8]
  | .ld_L_H => [0x6C#8]
  | .ld_L_L => [0x6D#8]
  | .ld_L_atHL => [0x6E#8]
  | .ld_L_A => [0x6F#8]
  | .ld_atHL_B => [0x70#8]
  | .ld_atHL_C => [0x71#8]
  | .ld_atHL_D => [0x72#8]
  | .ld_atHL_E => [0x73#8]
  | .ld_atHL_H => [0x74#8]
  | .ld_atHL_L => [0x75#8]
  | .halt => [0x76#8]
  | .ld_atHL_A => [0x77#8]
  | .ld_A_B => [0x78#8]
  | .ld_A_C => [0x79#8]
  | .ld_A_D => [0x7A#8]
  | .ld_A_E => [0x7B#8]
  | .ld_A_H => [0x7C#8]
  | .ld_A_L => [0x7D#8]
  | .ld_A_atHL => [0x7E#8]
  | .ld_A_A => [0x7F#8]
  | .add_A_B => [0x80#8]
  | .add_A_C => [0x81#8]
  | .add_A_D => [0x82#8]
  | .add_A_E => [0x83#8]
  | .add_A_H => [0x84#8]
  | .add_A_L => [0x85#8]
  | .add_A_atHL => [0x86#8]
  | .add_A_A => [0x87#8]
  | .adc_A_B => [0x88#8]
  | .adc_A_C => [0x89#8]
  | .adc_A_D => [0x8A#8]
  | .adc_A_E => [0x8B#8]
  | .adc_A_H => [0x8C#8]
  | .adc_A_L => [0x8D#8]
  | .adc_A_atHL => [0x8E#8]
  | .adc_A_A => [0x8F#8]
  | .sub_B => [0x90#8]
  | .sub_C => [0x91#8]
  | .sub_D => [0x92#8]
  | .sub_E => [0x93#8]
  | .sub_H => [0x94#8]
  | .sub_L => [0x95#8]
  | .sub_atHL => [0x96#8]
  | .sub_A => [0x97#8]
  | .sbc_A_B => [0x98#8]
  | .sbc_A_C => [0x99#8]
  | .sbc_A_D => [0x9A#8]
  | .sbc_A_E => [0x9B#8]
  | .sbc_A_H => [0x9C#8]
  | .sbc_A_L => [0x9D#8]
  | .sbc_A_atHL => [0x9E#8]
  | .sbc_A_A => [0x9F#8]
  | .and_B => [0xA0#8]
  | .and_C => [0xA1#8]
  | .and_D => [0xA2#8]
  | .and_E => [0xA3#8]
  | .and_H => [0xA4#8]
  | .and_L => [0xA5#8]
  | .and_atHL => [0xA6#8]
  | .and_A => [0xA7#8]
  | .xor_B => [0xA8#8]
  | .xor_C => [0xA9#8]
  | .xor_D => [0xAA#8]
  | .xor_E => [0xAB#8]
  | .xor_H => [0xAC#8]
  | .xor_L => [0xAD#8]
  | .xor_atHL => [0xAE#8]
  | .xor_A => [0xAF#8]
  | .or_B => [0xB0#8]
  | .or_C => [0xB1#8]
  | .or_D => [0xB2#8]
  | .or_E => [0xB3#8]
  | .or_H => [0xB4#8]
  | .or_L => [0xB5#8]
  | .or_atHL => [0xB6#8]
  | .or_A => [0xB7#8]
  | .cp_B => [0xB8#8]
  | .cp_C => [0xB9#8]
  | .cp_D => [0xBA#8]
  | .cp_E => [0xBB#8]
  | .cp_H => [0xBC#8]
  | .cp_L => [0xBD#8]
  | .cp_atHL => [0xBE#8]
  | .cp_A => [0xBF#8]
  | .ret_NZ => [0xC0#8]
  | .pop_BC => [0xC1#8]
  | .jp_NZ_a16 v => opWord 0xC2#8 v
  | .jp_a16 v => opWord 0xC3#8 v
  | .call_NZ_a16 v => opWord 0xC4#8 v
  | .push_BC => [0xC5#8]
  | .add_A_d8 v => [0xC6#8, v]
  | .rst_00 => [0xC7#8]
  | .ret_Z => [0xC8#8]
  | .ret => [0xC9#8]
  | .jp_Z_a16 v => opWord 0xCA#8 v
  | .prefixCB => [0xCB#8]
  | .call_Z_a16 v => opWord 0xCC#8 v
  | .call_a16 v => opWord 0xCD#8 v
  | .adc_A_d8 v => [0xCE#8, v]
  | .rst_08 => [0xCF#8]
  | .ret_NC => [0xD0#8]
  | .pop_DE => [0xD1#8]
  | .jp_NC_a16 v => opWord 0xD2#8 v
  | .undefined op => [op]
  | .call_NC_a16 v => opWord 0xD4#8 v
  | .push_DE => [0xD5#8]
  | .sub_d8 v => [0xD6#8, v]
  | .rst_10 => [0xD7#8]
  | .ret_C => [0xD8#8]
  | .reti => [0xD9#8]
  | .jp_C_a16 v => opWord 0xDA#8 v
  | .call_C_a16 v => opWord 0xDC#8 v
  | .sbc_A_d8 v => [0xDE#8, v]
  | .rst_18 => [0xDF#8]
  | .ldh_atA8_A v => [0xE0#8, v]
  | .pop_HL => [0xE1#8]
  | .ld_atC_A => [0xE2#8]
  | .push_HL => [0xE5#8]
  | .and_d8 v => [0xE6#8, v]
  | .rst_20 => [0xE7#8]
  | .add_SP_e8 v => [0xE8#8, v]
  | .jp_HL => [0xE9#8]
  | .ld_atA16_A v => opWord 0xEA#8 v
  | .xor_d8 v => [0xEE#8, v]
  | .rst_28 => [0xEF#8]
  | .ldh_A_atA8 v => [0xF0#8, v]
  | .pop_AF => [0xF1#8]
  | .ld_A_atC => [0xF2#8]
  | .di => [0xF3#8]
  | .push_AF => [0xF5#8]
  | .or_d8 v => [0xF6#8, v]
  | .rst_30 => [0xF7#8]
  | .ld_HL_SPe8 v => [0xF8#8, v]
  | .ld_SP_HL => [0xF9#8]
  | .ld_A_atA16 v => opWord 0xFA#8 v
  | .ei => [0xFB#8]
  | .cp_d8 v => [0xFE#8, v]
  | .rst_38 => [0xFF#8]
  | .rlc_B => opExt 0x00#8
  | .rlc_C => opExt 0x01#8
  | .rlc_D => opExt 0x02#8
  | .rlc_E => opExt 0x03#8
  | .rlc_H => opExt 0x04#8
  | .rlc_L => opExt 0x05#8
  | .rlc_atHL => opExt 0x06#8
  | .rlc_A => opExt 0x07#8
  | .rrc_B => opExt 0x08#8
  | .rrc_C => opExt 0x09#8
  | .rrc_D => opExt 0x0A#8
  | .rrc_E => opExt 0x0B#8
  | .rrc_H => opExt 0x0C#8
  | .rrc_L => opExt 0x0D#8
  | .rrc_atHL => opExt 0x0E#8
  | .rrc_A => opExt 0x0F#8
  | .rl_B => opExt 0x10#8
  | .rl_C => opExt 0x11#8
  | .rl_D => opExt 0x12#8
  | .rl_E => opExt 0x13#8
  | .rl_H => opExt 0x14#8
  | .rl_L => opExt 0x15#8
  | .rl_atHL => opExt 0x16#8
  | .rl_A => opExt 0x17#8
  | .rr_B => opExt 0x18#8
  | .rr_C => opExt 0x19#8
  | .rr_D => opExt 0x1A#8
  | .rr_E => opExt 0x1B#8
  | .rr_H => opExt 0x1C#8
  | .rr_L => opExt 0x1D#8
  | .rr_atHL => opExt 0x1E#8
  | .rr_A => opExt 0x1F#8
  | .sla_B => opExt 0x20#8
  | .sla_C => opExt 0x21#8
  | .sla_D => opExt 0x22#8
  | .sla_E => opExt 0x23#8
  | .sla_H => opExt 0x24#8
  | .sla_L => opExt 0x25#8
  | .sla_atHL => opExt 0x26#8
  | .sla_A => opExt 0x27#8
  | .sra_B => opExt 0x28#8
  | .sra_C => opExt 0x29#8
  | .sra_D => opExt 0x2A#8
  | .sra_E => opExt 0x2B#8
  | .sra_H => opExt 0x2C#8
  | .sra_L => opExt 0x2D#8
  | .sra_atHL => opExt 0x2E#8
  | .sra_A => opExt 0x2F#8
  | .swap_B => opExt 0x30#8
  | .swap_C => opExt 0x31#8
  | .swap_D => opExt 0x32#8
  | .swap_E => opExt 0x33#8
  | .swap_H => opExt 0x34#8
  | .swap_L => opExt 0x35#8
  | .swap_atHL => opExt 0x36#8
  | .swap_A => opExt 0x37#8
  | .srl_B => opExt 0x38#8
  | .srl_C => opExt 0x39#8
  | .srl_D => opExt 0x3A#8
  | .srl_E => opExt 0x3B#8
  | .srl_H => opExt 0x3C#8
  | .srl_L => opExt 0x3D#8
  | .srl_atHL => opExt 0x3E#8
  | .srl_A => opExt 0x3F#8
  | .bit_0_B => opExt 0x40#8
  | .bit_0_C => opExt 0x41#8
  | .bit_0_D => opExt 0x42#8
  | .bit_0_E => opExt 0x43#8
  | .bit_0_H => opExt 0x44#8
  | .bit_0_L => opExt 0x45#8
  | .bit_0_atHL => opExt 0x46#8
  | .bit_0_A => opExt 0x47#8
  | .bit_1_B => opExt 0x48#8
  | .bit_1_C => opExt 0x49#8
  | .bit_1_D => opExt 0x4A#8
  | .bit_1_E => opExt 0x4B#8
  | .bit_1_H => opExt 0x4C#8
  | .bit_1_L => opExt 0x4D#8
  | .bit_1_atHL => opExt 0x4E#8
  | .bit_1_A => opExt 0x4F#8
  | .bit_2_B => opExt 0x50#8
  | .bit_2_C => opExt 0x51#8
  | .bit_2_D => opExt 0x52#8
  | .bit_2_E => opExt 0x53#8
  | .bit_2_H => opExt 0x54#8
  | .bit_2_L => opExt 0x55#8
  | .bit_2_atHL => opExt 0x56#8
  | .bit_2_A => opExt 0x57#8
  | .bit_3_B => opExt 0x58#8
  | .bit_3_C => opExt 0x59#8
  | .bit_3_D => opExt 0x5A#8
  | .bit_3_E => opExt 0x5B#8
  | .bit_3_H => opExt 0x5C#8
  | .bit_3_L => opExt 0x5D#8
  | .bit_3_atHL => opExt 0x5E#8
  | .bit_3_A => opExt 0x5F#8
  | .bit_4_B => opExt 0x60#8
  | .bit_4_C => opExt 0x61#8
  | .bit_4_D => opExt 0x62#8
  | .bit_4_E => opExt 0x63#8
  | .bit_4_H => opExt 0x64#8
  | .bit_4_L => opExt 0x65#8
  | .bit_4_atHL => opExt 0x66#8
  | .bit_4_A => opExt 0x67#8
  | .bit_5_B => opExt 0x68#8
  | .bit_5_C => opExt 0x69#8
  | .bit_5_D => opExt 0x6A#8
  | .bit_5_E => opExt 0x6B#8
  | .bit_5_H => opExt 0x6C#8
  | .bit_5_L => opExt 0x6D#8
  | .bit_5_atHL => opExt 0x6E#8
  | .bit_5_A => opExt 0x6F#8
  | .bit_6_B => opExt 0x70#8
  | .bit_6_C => opExt 0x71#8
  | .bit_6_D => opExt 0x72#8
  | .bit_6_E => opExt 0x73#8
  | .bit_6_H => opExt 0x74#8
  | .bit_6_L => opExt 0x75#8
  | .bit_6_atHL => opExt 0x76#8
  | .bit_6_A => opExt 0x77#8
  | .bit_7_B => opExt 0x78#8
  | .bit_7_C => opExt 0x79#8
  | .bit_7_D => opExt 0x7A#8
  | .bit_7_E => opExt 0x7B#8
  | .bit_7_H => opExt 0x7C#8
  | .bit_7_L => opExt 0x7D#8
  | .bit_7_atHL => opExt 0x7E#8
  | .bit_7_A => opExt 0x7F#8
  | .res_0_B => opExt 0x80#8
  | .res_0_C => opExt 0x81#8
  | .res_0_D => opExt 0x82#8
  | .res_0_E => opExt 0x83#8
  | .res_0_H => opExt 0x84#8
  | .res_0_L => opExt 0x85#8
  | .res_0_atHL => opExt 0x86#8
  | .res_0_A => opExt 0x87#8
  | .res_1_B => opExt 0x88#8
  | .res_1_C => opExt 0x89#8
  | .res_1_D => opExt 0x8A#8
  | .res_1_E => opExt 0x8B#8
  | .res_1_H => opExt 0x8C#8
  | .res_1_L => opExt 0x8D#8
  | .res_1_atHL => opExt 0x8E#8
  | .res_1_A => opExt 0x8F#8
  | .res_2_B => opExt 0x90#8
  | .res_2_C => opExt 0x91#8
  | .res_2_D => opExt 0x92#8
  | .res_2_E => opExt 0x93#8
  | .res_2_H => opExt 0x94#8
  | .res_2_L => opExt 0x95#8
  | .res_2_atHL => opExt 0x96#8
  | .res_2_A => opExt 0x97#8
  | .res_3_B => opExt 0x98#8
  | .res_3_C => opExt 0x99#8
  | .res_3_D => opExt 0x9A#8
  | .res_3_E => opExt 0x9B#8
  | .res_3_H => opExt 0x9C#8
  | .res_3_L => opExt 0x9D#8
  | .res_3_atHL => opExt 0x9E#8
  | .res_3_A => opExt 0x9F#8
  | .res_4_B => opExt 0xA0#8
  | .res_4_C => opExt 0xA1#8
  | .res_4_D => opExt 0xA2#8
  | .res_4_E => opExt 0xA3#8
  | .res_4_H => opExt 0xA4#8
  | .res_4_L => opExt 0xA5#8
  | .res_4_atHL => opExt 0xA6#8
  | .res_4_A => opExt 0xA7#8
  | .res_5_B => opExt 0xA8#8
  | .res_5_C => opExt 0xA9#8
  | .res_5_D => opExt 0xAA#8
  | .res_5_E => opExt 0xAB#8
  | .res_5_H => opExt 0xAC#8
  | .res_5_L => opExt 0xAD#8
  | .res_5_atHL => opExt 0xAE#8
  | .res_5_A => opExt 0xAF#8
  | .res_6_B => opExt 0xB0#8
  | .res_6_C => opExt 0xB1#8
  | .res_6_D => opExt 0xB2#8
  | .res_6_E => opExt 0xB3#8
  | .res_6_H => opExt 0xB4#8
  | .res_6_L => opExt 0xB5#8
  | .res_6_atHL => opExt 0xB6#8
  | .res_6_A => opExt 0xB7#8
  | .res_7_B => opExt 0xB8#8
  | .res_7_C => opExt 0xB9#8
  | .res_7_D => opExt 0xBA#8
  | .res_7_E => opExt 0xBB#8
  | .res_7_H => opExt 0xBC#8
  | .res_7_L => opExt 0xBD#8
  | .res_7_atHL => opExt 0xBE#8
  | .res_7_A => opExt 0xBF#8
  | .set_0_B => opExt 0xC0#8
  | .set_0_C => opExt 0xC1#8
  | .set_0_D => opExt 0xC2#8
  | .set_0_E => opExt 0xC3#8
  | .set_0_H => opExt 0xC4#8
  | .set_0_L => opExt 0xC5#8
  | .set_0_atHL => opExt 0xC6#8
  | .set_0_A => opExt 0xC7#8
  | .set_1_B => opExt 0xC8#8
  | .set_1_C => opExt 0xC9#8
  | .set_1_D => opExt 0xCA#8
  | .set_1_E => opExt 0xCB#8
  | .set_1_H => opExt 0xCC#8
  | .set_1_L => opExt 0xCD#8
  | .set_1_atHL => opExt 0xCE#8
  | .set_1_A => opExt 0xCF#8
  | .set_2_B => opExt 0xD0#8
  | .set_2_C => opExt 0xD1#8
  | .set_2_D => opExt 0xD2#8
  | .set_2_E => opExt 0xD3#8
  | .set_2_H => opExt 0xD4#8
  | .set_2_L => opExt 0xD5#8
  | .set_2_atHL => opExt 0xD6#8
  | .set_2_A => opExt 0xD7#8
  | .set_3_B => opExt 0xD8#8
  | .set_3_C => opExt 0xD9#8
  | .set_3_D => opExt 0xDA#8
  | .set_3_E => opExt 0xDB#8
  | .set_3_H => opExt 0xDC#8
  | .set_3_L => opExt 0xDD#8
  | .set_3_atHL => opExt 0xDE#8
  | .set_3_A => opExt 0xDF#8
  | .set_4_B => opExt 0xE0#8
  | .set_4_C => opExt 0xE1#8
  | .set_4_D => opExt 0xE2#8
  | .set_4_E => opExt 0xE3#8
  | .set_4_H => opExt 0xE4#8
  | .set_4_L => opExt 0xE5#8
  | .set_4_atHL => opExt 0xE6#8
  | .set_4_A => opExt 0xE7#8
  | .set_5_B => opExt 0xE8#8
  | .set_5_C => opExt 0xE9#8
  | .set_5_D => opExt 0xEA#8
  | .set_5_E => opExt 0xEB#8
  | .set_5_H => opExt 0xEC#8
  | .set_5_L => opExt 0xED#8
  | .set_5_atHL => opExt 0xEE#8
  | .set_5_A => opExt 0xEF#8
  | .set_6_B => opExt 0xF0#8
  | .set_6_C => opExt 0xF1#8
  | .set_6_D => opExt 0xF2#8
  | .set_6_E => opExt 0xF3#8
  | .set_6_H => opExt 0xF4#8
  | .set_6_L => opExt 0xF5#8
  | .set_6_atHL => opExt 0xF6#8
  | .set_6_A => opExt 0xF7#8
  | .set_7_B => opExt 0xF8#8
  | .set_7_C => opExt 0xF9#8
  | .set_7_D => opExt 0xFA#8
  | .set_7_E => opExt 0xFB#8
  | .set_7_H => opExt 0xFC#8
  | .set_7_L => opExt 0xFD#8
  | .set_7_atHL => opExt 0xFE#8
  | .set_7_A => opExt 0xFF#8

/-- The length in bytes of an instruction (R130). -/
def Instr.length (i : Instr) : Nat := (encode i).length

/-- The bytes that a word of spec/opcode_table.json stands for, in the order the hardware stores them. The table numbers
an extended row over `byte0 << 8 | byte1` (R144), every other row over its first byte; bits the table does not give are
0, and the row of the prefix byte is that byte alone (log entry 6). -/
def tableBytes (nbits w : Nat) : List Byte :=
  if nbits ≤ 8 ∧ w % 256 = 0xCB then [0xCB#8]
  else if nbits = 16 ∧ w / 256 % 256 = 0xCB then [0xCB#8, BitVec.ofNat 8 w]
  else [BitVec.ofNat 8 w, BitVec.ofNat 8 (w / 256), BitVec.ofNat 8 (w / 65536)]

/-- What the decoder reads from a word of the opcode table. -/
def decodeTableWord (nbits w : Nat) : Option Instr :=
  match decode (tableBytes nbits w) with
  | .ok (i, _) => some i
  | .error _ => none

end Sys2Proof
end

