-- ==== Sys2Proof/Config.lean ====
section
/-! DEFINITION. The fixed parameters of 00_scope.md R5 and the open parameters of R6. An open parameter is an
`opaque` constant: nothing in Lean can see its value, so whatever is proved holds for every value of it. -/

namespace Sys2Proof.Config

/-- `CLOCK_HZ` (R5, 63_apu.md R436). -/
def clockHz : Nat := 4194304

/-- `LCD_W` (R5, 62_ppu.md R372). -/
def lcdW : Nat := 160

/-- `LCD_H` (R5, 62_ppu.md R372). -/
def lcdH : Nat := 144

/-- `FILL`, what an unmapped read answers (R5, 20_memory.md R61). -/
def fill : Byte := 0xFF#8

/-- The RAM arrays whose contents after reset are the open parameter `RAM_INIT` (10_state.md R36). -/
inductive Region where
  | vram
  | wram
  | oam
  | hram
  | waveRam
  | extRam
  deriving DecidableEq, Repr

/-- `RAM_INIT` (R6; 70_reset_and_hazards.md R466): what a cell that nothing has written since reset number `epoch`
holds. Contents after every reset are arbitrary, so each reset has contents of its own (log entry 2). -/
opaque ramInit (epoch : Nat) (region : Region) (offset : Nat) : Byte

/-- `ROM_PAD` (R6; 21_cartridge.md R102): the byte that fills an image shorter than its declared size. -/
opaque romPad : Byte

/-- One RGBA8888 pixel, bytes in the order of 62_ppu.md R372. -/
structure Rgba where
  r : Byte
  g : Byte
  b : Byte
  a : Byte
  deriving DecidableEq, Repr, Inhabited

/-- `PALETTE_RGB` (R6; 62_ppu.md R364): the pixel of each of the four shades. -/
opaque palette (shade : BitVec 2) : Rgba

/-- The open parameters of the APU's output stage, as the functions of Machine/Apu.lean take them. -/
structure Audio where
  /-- `OUT_RATE`, Hz (63_apu.md R436). -/
  outRate : Nat
  /-- `HEADROOM`, the mixer's attenuation (63_apu.md R430). -/
  headroom : Rat
  /-- `BATCH_N`, stereo pairs a batch (63_apu.md R438). -/
  batchN : Nat
  /-- `SINK_MAX`, the sink depth above which a flush is skipped (63_apu.md R438). -/
  sinkMax : Nat
  deriving DecidableEq, Repr

/-- `OUT_RATE - 1`: R436 bounds `OUT_RATE` to 1..174762. -/
opaque outRatePred : Fin 174762

/-- Two naturals that stand for `HEADROOM`: every rational in (0, 1] is `(min n d + 1) / (d + 1)` for some `n`, `d`. -/
opaque headroomCode : Nat × Nat

/-- `BATCH_N - 1`: R438 asks `BATCH_N ≥ 1`. -/
opaque batchPred : Nat

/-- `SINK_MAX - 1`: 93_implementation_defined.md U16 asks a positive integer. -/
opaque sinkMaxPred : Nat

/-- The audio parameters of this machine (R6), each over the whole range the spec allows. -/
def audio : Audio where
  outRate := outRatePred.val + 1
  headroom := ((min headroomCode.1 headroomCode.2 + 1 : Nat) : Rat) / ((headroomCode.2 + 1 : Nat) : Rat)
  batchN := batchPred + 1
  sinkMax := sinkMaxPred + 1

end Sys2Proof.Config
end

