-- ==== Sys2Proof/Machine/State.lean ====
section
/-! DEFINITION. The state of the machine as plain data, one field for every piece of state the spec names, grouped by
owner as in 10_state.md R38 (CPU, bus, Timer, PPU, APU, Joypad, Cartridge), and the state after reset (R40, R41). -/

namespace Sys2Proof.Machine

open Sys2Proof

/-- A byte store: offsets paired with the bytes written there, in ONE canonical form (`Memory.wf`). An offset that is
not listed holds no written byte; what it reads as is the affair of `Ram.read` and `Cart.romByte`. -/
abbrev Memory := List Host.Cell

/-- The canonical form: offsets strictly rising. An unlisted offset has no byte of its own (it reads as an open
parameter), so no entry can equal what it reads as. -/
abbrev Memory.wf (m : Memory) : Prop := m.Pairwise (fun p q => p.1 < q.1)

/-- A RAM array (10_state.md R36): what has been written since reset number `epoch`, over the `RAM_INIT` contents of
that reset (70_reset_and_hazards.md R466). -/
structure Ram where
  epoch : Nat
  cells : Memory
  deriving DecidableEq, Repr

/-- A RAM array right after reset number `epoch`: nothing written. -/
def Ram.fresh (epoch : Nat) : Ram := { epoch := epoch, cells := [] }

/-- The CPU's run state (10_state.md R32). -/
inductive CpuMode where
  | running
  | halted
  | stopped
  | fatal
  deriving DecidableEq, Repr

/-- The CPU (10_state.md R20 to R32). -/
structure Cpu where
  a : Byte
  /-- The flags register, `Z N H C` in bits 7:4 (R24). -/
  f : Byte
  b : Byte
  c : Byte
  d : Byte
  e : Byte
  h : Byte
  l : Byte
  sp : Word
  pc : Word
  /-- The interrupt master enable latch (R30). -/
  ime : Bool
  /-- An `EI` whose effect is still to come (R31). -/
  eiPending : Bool
  mode : CpuMode
  /-- `fatal_info`: the offending opcode byte (R32). -/
  fatalOp : Byte
  /-- `fatal_info`: the address it was fetched from (R32). -/
  fatalAddr : Word
  /-- The T-cycles the last CPU step returned (00_scope.md R11, `cycles <- n`). -/
  cycles : Nat
  deriving DecidableEq, Repr

/-- The bus's own state (20_memory.md R60). -/
structure Bus where
  wram : Ram
  hram : Ram
  /-- The five implemented bits of `IF` (10_state.md R33). -/
  ifReg : BitVec 5
  /-- `IE` (10_state.md R34). -/
  ie : Byte
  /-- The last byte written to the DMA register (20_memory.md R75). -/
  dmaReg : Byte
  deriving DecidableEq, Repr

/-- The Timer (61_timer.md R320). -/
structure Timer where
  div16 : Word
  tima : Byte
  tma : Byte
  tac : BitVec 3
  intMask : BitVec 5
  deriving DecidableEq, Repr

/-- The PPU's mode (62_ppu.md R340, R341). -/
inductive PpuMode where
  | hblank
  | vblank
  | oamScan
  | pixelTransfer
  deriving DecidableEq, Repr

/-- One line of 2-bit values, left to right. -/
abbrev Row := List (BitVec 2)

/-- A 160 × 144 buffer of 2-bit values by line: lines strictly rising, a line that is not listed is all zero, and no
listed line is all zero. -/
abbrev Rows := List (Nat × Row)

/-- The PPU (62_ppu.md R340). `fb` holds for each pixel the shade whose `PALETTE_RGB` entry the pixel is: every rule
that writes `fb` writes a `PALETTE_RGB` entry, so the RGBA bytes are a view of it (`Ppu.fbByte`). -/
structure Ppu where
  mode : PpuMode
  ly : Nat
  dot : Nat
  lcdc : Byte
  /-- STAT bits 6:3 (R343). -/
  statSel : BitVec 4
  lycFlag : Bool
  scy : Byte
  scx : Byte
  lyc : Byte
  wy : Byte
  wx : Byte
  bgp : Byte
  obp0 : Byte
  obp1 : Byte
  vram : Ram
  oam : Ram
  fb : Rows
  ci : Rows
  intMask : BitVec 5
  frameReady : Bool
  deriving DecidableEq, Repr

/-- The envelope of channels 1, 2 and 4 (63_apu.md R390, R396, R413). -/
structure Envelope where
  /-- `env_init` -/
  init : BitVec 4
  /-- `env_dir`: true increases. -/
  up : Bool
  /-- `env_period` -/
  period : BitVec 3
  volume : Nat
  /-- `env_timer` -/
  timer : Nat
  /-- `env_running` -/
  running : Bool
  deriving DecidableEq, Repr

/-- A pulse channel, 1 or 2 (63_apu.md R390). -/
structure Pulse where
  enabled : Bool
  length : Nat
  lengthEn : Bool
  timer : Int
  freq : BitVec 11
  duty : BitVec 2
  step : BitVec 3
  env : Envelope
  deriving DecidableEq, Repr

/-- Channel 1's sweep unit (63_apu.md R390, R394). -/
structure Sweep where
  /-- `sw_period` -/
  period : BitVec 3
  /-- `sw_dir`: true subtracts. -/
  down : Bool
  /-- `sw_shift` -/
  shift : BitVec 3
  shadow : BitVec 11
  /-- `sw_timer` -/
  timer : Nat
  /-- `sw_enabled` -/
  enabled : Bool
  deriving DecidableEq, Repr

/-- Channel 3 (63_apu.md R390). -/
structure Wave where
  enabled : Bool
  length : Nat
  lengthEn : Bool
  timer : Int
  freq : BitVec 11
  dacEn : Bool
  volCode : BitVec 2
  index : BitVec 5
  deriving DecidableEq, Repr

/-- Channel 4 (63_apu.md R390). -/
structure Noise where
  enabled : Bool
  length : Nat
  lengthEn : Bool
  timer : Int
  env : Envelope
  shift : BitVec 4
  width : Bool
  divCode : BitVec 3
  lfsr : BitVec 15
  deriving DecidableEq, Repr

/-- The APU (63_apu.md R390). `pushed` is the audio output, oldest batch first: each batch as the interleaved
binary32 values handed to the sink (R433, R440). -/
structure Apu where
  master : Bool
  nr50 : Byte
  nr51 : Byte
  fsAcc : Nat
  fsPhase : BitVec 3
  ch1 : Pulse
  sweep : Sweep
  ch2 : Pulse
  ch3 : Wave
  ch4 : Noise
  waveRam : Ram
  rsL : Rat
  rsR : Rat
  rsN : Nat
  rsPhase : Nat
  batch : List (Rat × Rat)
  pushed : List (List (BitVec 32))
  deriving DecidableEq, Repr

/-- The eight buttons, true when pressed (60_exceptions.md R304). -/
structure Buttons where
  up : Bool
  down : Bool
  left : Bool
  right : Bool
  a : Bool
  b : Bool
  start : Bool
  select : Bool
  deriving DecidableEq, Repr

/-- No button pressed. -/
def Buttons.none : Buttons :=
  { up := false, down := false, left := false, right := false, a := false, b := false, start := false, select := false }

/-- The Joypad (60_exceptions.md R304). -/
structure Joypad where
  /-- P1 bits 5:4 as last written. -/
  select : BitVec 2
  buttons : Buttons
  intMask : BitVec 5
  deriving DecidableEq, Repr

/-- The five clock registers of MBC3 (21_cartridge.md R113). -/
structure Rtc where
  seconds : Byte
  minutes : Byte
  hours : Byte
  dayLow : Byte
  dayHigh : Byte
  deriving DecidableEq, Repr

/-- The bank controller with its registers (21_cartridge.md R100, R104, R105, R110, R113). -/
inductive Mbc where
  | none
  | mbc1 (ramEnable : Bool) (bankLo : BitVec 5) (bankHi : BitVec 2) (mode : Bool)
  | mbc2 (ramEnable : Bool) (romBank : BitVec 4)
  | mbc3 (ramEnable : Bool) (romBank : BitVec 7) (sel : Byte) (latchPrev : Byte) (rtc : Rtc) (rtcLatched : Rtc)
  deriving DecidableEq, Repr

/-- The cartridge (21_cartridge.md R100). `rom` lists the image's bytes, a byte that is not listed is padding (R102). -/
structure Cart where
  rom : Memory
  romLen : Nat
  ram : Ram
  ramLen : Nat
  mbc : Mbc
  dirty : Bool
  deriving DecidableEq, Repr

/-- What the host can do to the machine between two ticks (20_memory.md R93). -/
inductive HostEvent where
  /-- A button snapshot (60_exceptions.md R305). -/
  | buttons (b : Buttons)
  /-- The reset request (70_reset_and_hazards.md R460). -/
  | reset
  /-- `set_ram` (21_cartridge.md R121). -/
  | setRam (data : List Byte)
  /-- `consume_dirty` (21_cartridge.md R119). -/
  | consumeDirty
  /-- The host takes the frame that `frame_ready` announced (62_ppu.md R373). -/
  | takeFrame
  /-- The audio sink's pending depth from now on (63_apu.md R438). -/
  | sinkDepth (n : Nat)
  deriving DecidableEq, Repr

/-- The machine. -/
structure State where
  cpu : Cpu
  bus : Bus
  timer : Timer
  ppu : Ppu
  apu : Apu
  joypad : Joypad
  cart : Cart
  /-- The host's inputs still to come, one list for each tick, the next tick's first (R93). -/
  inputs : List (List HostEvent)
  /-- `SINK_PENDING`: the sink's pending depth as the host last gave it (00_scope.md R6). -/
  sinkPending : Nat
  deriving DecidableEq, Repr

/-- Why the machine would stop with a fault. There is no constructor: every access, every arithmetic result and every
stack pointer is legal (20_memory.md R61; 60_exceptions.md R291), and the one exception the spec has, `FatalDecode`,
is a next state in mode `fatal` (46_system.md R268). -/
inductive Fault where
  deriving DecidableEq, Repr

/-- Why something is refused. -/
inductive Refusal where
  /-- Raised by `exec` for an instruction that has no meaning yet. Safe: the machine stops. -/
  | notModelled (mnemonic : String)
  /-- Raised by `State.powerOn` (never by a step) for an image whose header bytes are missing or outside the tables
  of 21_cartridge.md R101, for which construction is refused. Safe: no machine comes into being. -/
  | cartridgeNotSupported
  deriving DecidableEq, Repr

/-- What a meaning and a step answer. -/
abbrev Result := Host.Outcome State Fault Refusal

/-! Reset values (10_state.md R40, R41). -/

/-- The CPU after reset (R40). `fatal_info` means nothing outside mode `fatal` and `cycles` is no architectural state:
both are zero (log entry 3). -/
def Cpu.reset : Cpu where
  a := 0x01#8
  f := 0xB0#8
  b := 0x00#8
  c := 0x13#8
  d := 0x00#8
  e := 0xD8#8
  h := 0x01#8
  l := 0x4D#8
  sp := 0xFFFE#16
  pc := 0x0100#16
  ime := false
  eiPending := false
  mode := .running
  fatalOp := 0x00#8
  fatalAddr := 0x0000#16
  cycles := 0

/-- The bus after reset number `epoch` (R40, R41). -/
def Bus.reset (epoch : Nat) : Bus where
  wram := Ram.fresh epoch
  hram := Ram.fresh epoch
  ifReg := 0b00001#5
  ie := 0x00#8
  dmaReg := 0xFF#8

/-- The Timer after reset (R41). -/
def Timer.reset : Timer where
  div16 := 0xABCC#16
  tima := 0x00#8
  tma := 0x00#8
  tac := 0#3
  intMask := 0#5

/-- The PPU after reset number `epoch` (R41; 62_ppu.md R340). -/
def Ppu.reset (epoch : Nat) : Ppu where
  mode := .oamScan
  ly := 0
  dot := 0
  lcdc := 0x91#8
  statSel := 0#4
  lycFlag := true
  scy := 0x00#8
  scx := 0x00#8
  lyc := 0x00#8
  wy := 0x00#8
  wx := 0x00#8
  bgp := 0xFC#8
  obp0 := 0xFF#8
  obp1 := 0xFF#8
  vram := Ram.fresh epoch
  oam := Ram.fresh epoch
  fb := []
  ci := []
  intMask := 0#5
  frameReady := false

/-- An envelope after reset, with the three parameters R41 gives. -/
def Envelope.reset (init : BitVec 4) (up : Bool) (period : BitVec 3) : Envelope where
  init := init
  up := up
  period := period
  volume := 0
  timer := 0
  running := false

/-- A pulse channel after reset. -/
def Pulse.reset (duty : BitVec 2) (env : Envelope) : Pulse where
  enabled := false
  length := 0
  lengthEn := false
  timer := 0
  freq := 0#11
  duty := duty
  step := 0#3
  env := env

/-- The sweep unit after reset. -/
def Sweep.reset : Sweep where
  period := 0#3
  down := false
  shift := 0#3
  shadow := 0#11
  timer := 0
  enabled := false

/-- Channel 3 after reset. -/
def Wave.reset : Wave where
  enabled := false
  length := 0
  lengthEn := false
  timer := 0
  freq := 0#11
  dacEn := false
  volCode := 0#2
  index := 0#5

/-- Channel 4 after reset. -/
def Noise.reset : Noise where
  enabled := false
  length := 0
  lengthEn := false
  timer := 0
  env := Envelope.reset 0#4 false 0#3
  shift := 0#4
  width := false
  divCode := 0#3
  lfsr := 0x7FFF#15

/-- The APU after reset number `epoch` (R41; 63_apu.md R390). -/
def Apu.reset (epoch : Nat) : Apu where
  master := true
  nr50 := 0x77#8
  nr51 := 0xF3#8
  fsAcc := 0
  fsPhase := 0#3
  ch1 := Pulse.reset 2#2 (Envelope.reset 15#4 false 3#3)
  sweep := Sweep.reset
  ch2 := Pulse.reset 0#2 (Envelope.reset 0#4 false 0#3)
  ch3 := Wave.reset
  ch4 := Noise.reset
  waveRam := Ram.fresh epoch
  rsL := 0
  rsR := 0
  rsN := 0
  rsPhase := 0
  batch := []
  pushed := []

/-- The Joypad after reset (R41). -/
def Joypad.reset : Joypad where
  select := 0#2
  buttons := Buttons.none
  intMask := 0#5

/-- The clock registers at power-on (21_cartridge.md R116). -/
def Rtc.zero : Rtc :=
  { seconds := 0x00#8, minutes := 0x00#8, hours := 0x00#8, dayLow := 0x00#8, dayHigh := 0x00#8 }

/-- A bank controller with its registers at their reset values, the clock registers kept (21_cartridge.md R120). -/
def Mbc.reset : Mbc → Mbc
  | .none => .none
  | .mbc1 _ _ _ _ => .mbc1 false 1#5 0#2 false
  | .mbc2 _ _ => .mbc2 false 1#4
  | .mbc3 _ _ _ _ rtc latched => .mbc3 false 1#7 0x00#8 0xFF#8 rtc latched

/-- What a reset leaves of the cartridge: image, RAM and dirty flag, with the registers reinitialised (R120). -/
def Cart.reset (k : Cart) : Cart := { k with mbc := k.mbc.reset }

/-- The cartridge of `State.reset`: 32 KiB of ROM, no bank controller, no RAM, and an image with no byte in it
(log entry 4). -/
def Cart.blank : Cart where
  rom := []
  romLen := 32768
  ram := Ram.fresh 0
  ramLen := 0
  mbc := .none
  dirty := false

/-- The post-boot state with cartridge `k`, after reset number `epoch` (70_reset_and_hazards.md R460). -/
def State.postBoot (k : Cart) (epoch : Nat) : State where
  cpu := Cpu.reset
  bus := Bus.reset epoch
  timer := Timer.reset
  ppu := Ppu.reset epoch
  apu := Apu.reset epoch
  joypad := Joypad.reset
  cart := k.reset
  inputs := []
  sinkPending := 0

/-- The machine right after reset, nothing loaded. -/
def State.reset : State := State.postBoot Cart.blank 0

end Sys2Proof.Machine
end

