-- ==== Sys2Proof/Machine/Memory.lean ====
section
/-! DEFINITION. Reading and writing the byte stores and the line buffers. -/

namespace Sys2Proof.Machine

open Sys2Proof

/-- The byte written at offset `k`, if one was. -/
def Memory.byte? : Memory → Nat → Option Byte
  | [], _ => none
  | (j, b) :: rest, k => if j = k then some b else Memory.byte? rest k

/-- Writing a byte at offset `k`, keeping the canonical form. -/
def Memory.put : Memory → Nat → Byte → Memory
  | [], k, v => [(k, v)]
  | (j, b) :: rest, k, v =>
    if k < j then (k, v) :: (j, b) :: rest
    else if k = j then (k, v) :: rest
    else (j, b) :: Memory.put rest k v

/-- Consecutive bytes from offset `k` on. -/
def Memory.ofBytes (k : Nat) : List Byte → Memory
  | [] => []
  | v :: rest => (k, v) :: Memory.ofBytes (k + 1) rest

/-- The bytes from offset 0 on replaced by `data`, later ones kept. -/
def Memory.overwrite (m : Memory) (data : List Byte) : Memory :=
  Memory.ofBytes 0 data ++ m.filter (fun c => decide (data.length ≤ c.1))

/-- Reading a RAM array: the byte written there, else `RAM_INIT` (70_reset_and_hazards.md R466). -/
def Ram.read (region : Config.Region) (r : Ram) (k : Nat) : Byte :=
  (r.cells.byte? k).getD (Config.ramInit r.epoch region k)

/-- Writing a RAM array. -/
def Ram.write (r : Ram) (k : Nat) (v : Byte) : Ram := { r with cells := r.cells.put k v }

/-- Line `y` of a buffer. -/
def Rows.row : Rows → Nat → Row
  | [], _ => List.replicate Config.lcdW 0#2
  | (j, r) :: rest, y => if j = y then r else Rows.row rest y

/-- Removing line `y`, which makes it all zero. -/
def Rows.drop : Rows → Nat → Rows
  | [], _ => []
  | (j, r) :: rest, y => if j = y then rest else (j, r) :: Rows.drop rest y

/-- Listing line `y`. -/
def Rows.insert : Rows → Nat → Row → Rows
  | [], y, r => [(y, r)]
  | (j, q) :: rest, y, r =>
    if y < j then (y, r) :: (j, q) :: rest
    else if y = j then (y, r) :: rest
    else (j, q) :: Rows.insert rest y r

/-- Writing line `y`, keeping the canonical form: an all-zero line is not listed. -/
def Rows.put (m : Rows) (y : Nat) (r : Row) : Rows :=
  if r = List.replicate Config.lcdW 0#2 then m.drop y else m.insert y r

/-- Column `x` of a line. -/
def Row.pixel : Row → Nat → BitVec 2
  | [], _ => 0#2
  | p :: _, 0 => p
  | _ :: rest, x + 1 => Row.pixel rest x

end Sys2Proof.Machine
end

