-- ==== Sys2Proof/Machine/Apu.lean ====
section
/-! DEFINITION. The APU (63_apu.md): registers, channels, frame sequencer, mixer and resampler. -/

namespace Sys2Proof.Machine

open Sys2Proof

/-! Periods (R417 to R419). -/

/-- `(2048 - freq) * 4` (R417). -/
def Pulse.period (c : Pulse) : Nat := (2048 - c.freq.toNat) * 4

/-- `(2048 - freq) * 2` (R418). -/
def Wave.period (c : Wave) : Nat := (2048 - c.freq.toNat) * 2

/-- `divisor(code)` (R419). -/
def noiseDivisor (code : BitVec 3) : Nat := if code = 0#3 then 8 else 16 * code.toNat

/-- `period4` (R419). -/
def Noise.period (c : Noise) : Nat := noiseDivisor c.divCode * 2 ^ c.shift.toNat

/-! Register fields. -/

/-- The NRx2 byte of an envelope (R396). -/
def Envelope.read (e : Envelope) : Byte := (e.init ++ BitVec.ofBool e.up) ++ e.period

/-- A write to NRx2: the three parameters, not the running values (R396). -/
def Envelope.write (e : Envelope) (v : Byte) : Envelope :=
  { e with init := v.extractLsb' 4 4, up := v.getLsbD 3, period := v.extractLsb' 0 3 }

/-- The envelope part of a trigger (R420). -/
def Envelope.trigger (e : Envelope) : Envelope :=
  { e with volume := e.init.toNat, timer := e.period.toNat, running := true }

/-- The NR10 byte (R394). -/
def Sweep.read (s : Sweep) : Byte := ((1#1 ++ s.period) ++ BitVec.ofBool s.down) ++ s.shift

/-- A write to NR10 (R394). -/
def Sweep.write (s : Sweep) (v : Byte) : Sweep :=
  { s with period := v.extractLsb' 4 3, down := v.getLsbD 3, shift := v.extractLsb' 0 3 }

/-- The low byte of a frequency replaced: NR13, NR23, NR33 (R397). -/
def freqLow (freq : BitVec 11) (v : Byte) : BitVec 11 := freq.extractLsb' 8 3 ++ v

/-- The high bits of a frequency replaced: NR14, NR24, NR34 (R398). -/
def freqHigh (freq : BitVec 11) (v : Byte) : BitVec 11 := v.extractLsb' 0 3 ++ freq.extractLsb' 0 8

/-- The control byte read back: bit 6, every other bit 1 (R398, R404). -/
def readControl (lengthEn : Bool) : Byte := (1#1 ++ BitVec.ofBool lengthEn) ++ 0x3F#6

/-- A 6-bit length load (R395, R402). -/
def lengthLoad (v : Byte) : Nat := 64 - (v.extractLsb' 0 6).toNat

/-! Triggers (R420 to R423). -/

/-- The common part for a pulse channel (R420). -/
def Pulse.trigger (c : Pulse) : Pulse :=
  { c with enabled := true, length := if c.length = 0 then 64 else c.length, timer := c.period, env := c.env.trigger }

/-- Channel 3 (R420, R422). -/
def Wave.trigger (c : Wave) : Wave :=
  { c with enabled := true, length := if c.length = 0 then 256 else c.length, timer := c.period, index := 0#5 }

/-- Channel 4 (R420, R423). -/
def Noise.trigger (c : Noise) : Noise :=
  { c with enabled := true, length := if c.length = 0 then 64 else c.length, timer := c.period, env := c.env.trigger,
           lfsr := 0x7FFF#15 }

/-- `candidate()` (R415), at most 4094. -/
def Sweep.candidate (s : Sweep) : Nat :=
  let d := s.shadow.toNat / 2 ^ s.shift.toNat
  if s.down then s.shadow.toNat - d else s.shadow.toNat + d

/-- The value the sweep timer reloads to: the period, 8 for period 0 (R414, R421). -/
def Sweep.reload (s : Sweep) : Nat := if s.period = 0#3 then 8 else s.period.toNat

/-- The sweep part of a trigger of channel 1 at frequency `freq` (R421). -/
def Sweep.trigger (s : Sweep) (freq : BitVec 11) : Sweep :=
  { s with shadow := freq, timer := s.reload, enabled := s.period != 0#3 || s.shift != 0#3 }

/-- Disabling channel 1 if `overflow` holds. -/
def Pulse.disableIf (overflow : Bool) (c : Pulse) : Pulse := { c with enabled := c.enabled && !overflow }

/-- A trigger of channel 1 (R420, R421): the overflow check stores nothing. -/
def Apu.trigger1 (a : Apu) : Apu :=
  let sweep := a.sweep.trigger a.ch1.freq
  { a with sweep := sweep,
           ch1 := a.ch1.trigger.disableIf (sweep.shift != 0#3 && decide (2047 < sweep.candidate)) }

/-- The write part of NR14 or NR24 before the trigger (R398). -/
def Pulse.writeControl (c : Pulse) (v : Byte) : Pulse :=
  { c with freq := freqHigh c.freq v, lengthEn := v.getLsbD 6 }

/-- The write part of NR34 before the trigger (R398). -/
def Wave.writeControl (c : Wave) (v : Byte) : Wave :=
  { c with freq := freqHigh c.freq v, lengthEn := v.getLsbD 6 }

/-- A write to NR14 (R398). -/
def Apu.writeNr14 (a : Apu) (v : Byte) : Apu :=
  if v.getLsbD 7 then Apu.trigger1 { a with ch1 := a.ch1.writeControl v } else { a with ch1 := a.ch1.writeControl v }

/-- A write to NR24 (R398). -/
def Pulse.writeNr24 (c : Pulse) (v : Byte) : Pulse :=
  if v.getLsbD 7 then (c.writeControl v).trigger else c.writeControl v

/-- A write to NR34 (R398). -/
def Wave.writeNr34 (c : Wave) (v : Byte) : Wave :=
  if v.getLsbD 7 then (c.writeControl v).trigger else c.writeControl v

/-- A write to NR44 (R404). -/
def Noise.writeNr44 (c : Noise) (v : Byte) : Noise :=
  if v.getLsbD 7 then Noise.trigger { c with lengthEn := v.getLsbD 6 } else { c with lengthEn := v.getLsbD 6 }

/-! The master switch (R407). -/

/-- An envelope with everything zeroed (R407). -/
def Envelope.off : Envelope := { init := 0#4, up := false, period := 0#3, volume := 0, timer := 0, running := false }

/-- A pulse channel after `power_off()`: its length counter is kept (R407). -/
def Pulse.powerOff (c : Pulse) : Pulse :=
  { enabled := false, length := c.length, lengthEn := false, timer := 0, freq := 0#11, duty := 0#2, step := 0#3,
    env := Envelope.off }

/-- Channel 3 after `power_off()` (R407). -/
def Wave.powerOff (c : Wave) : Wave :=
  { enabled := false, length := c.length, lengthEn := false, timer := 0, freq := 0#11, dacEn := false, volCode := 0#2,
    index := 0#5 }

/-- Channel 4 after `power_off()`: its length counter and LFSR are kept (R407). -/
def Noise.powerOff (c : Noise) : Noise :=
  { enabled := false, length := c.length, lengthEn := false, timer := 0, env := Envelope.off, shift := 0#4,
    width := false, divCode := 0#3, lfsr := c.lfsr }

/-- `power_off()` (R407). -/
def Apu.powerOff (a : Apu) : Apu :=
  { a with master := false, nr50 := 0x00#8, nr51 := 0x00#8, ch1 := a.ch1.powerOff, sweep := Sweep.reset,
           ch2 := a.ch2.powerOff, ch3 := a.ch3.powerOff, ch4 := a.ch4.powerOff }

/-- `power_on()` (R407). -/
def Apu.powerOn (a : Apu) : Apu := { a with master := true, fsAcc := 0, fsPhase := 0#3 }

/-- A write to NR52 (R407). -/
def Apu.writeNr52 (a : Apu) (v : Byte) : Apu :=
  if a.master && !v.getLsbD 7 then a.powerOff
  else if !a.master && v.getLsbD 7 then a.powerOn
  else a

/-- Reading NR52 (R407). -/
def Apu.readNr52 (a : Apu) : Byte :=
  ((((BitVec.ofBool a.master ++ 0b111#3) ++ BitVec.ofBool a.ch4.enabled) ++ BitVec.ofBool a.ch3.enabled)
    ++ BitVec.ofBool a.ch2.enabled) ++ BitVec.ofBool a.ch1.enabled

/-! Reading and writing `0xFF00 + k`, `k` in 0x10..0x3F. -/

/-- The length part of a write to NR11, NR21, NR31 or NR41, which the master switch does not stop (R392). -/
def Apu.writeLength (a : Apu) (k : Nat) (v : Byte) : Apu :=
  match k with
  | 0x11 => { a with ch1 := { a.ch1 with length := lengthLoad v } }
  | 0x16 => { a with ch2 := { a.ch2 with length := lengthLoad v } }
  | 0x1B => { a with ch3 := { a.ch3 with length := 256 - v.toNat } }
  | 0x20 => { a with ch4 := { a.ch4 with length := lengthLoad v } }
  | _ => a

/-- A write to a control register `0xFF10–0xFF25` with the master switch on (R394 to R406). -/
def Apu.writeOn (a : Apu) (k : Nat) (v : Byte) : Apu :=
  match k with
  | 0x10 => { a with sweep := a.sweep.write v }
  | 0x11 => { a with ch1 := { a.ch1 with duty := v.extractLsb' 6 2, length := lengthLoad v } }
  | 0x12 => { a with ch1 := { a.ch1 with env := a.ch1.env.write v } }
  | 0x13 => { a with ch1 := { a.ch1 with freq := freqLow a.ch1.freq v } }
  | 0x14 => a.writeNr14 v
  | 0x16 => { a with ch2 := { a.ch2 with duty := v.extractLsb' 6 2, length := lengthLoad v } }
  | 0x17 => { a with ch2 := { a.ch2 with env := a.ch2.env.write v } }
  | 0x18 => { a with ch2 := { a.ch2 with freq := freqLow a.ch2.freq v } }
  | 0x19 => { a with ch2 := a.ch2.writeNr24 v }
  | 0x1A => { a with ch3 := { a.ch3 with dacEn := v.getLsbD 7 } }
  | 0x1B => a.writeLength 0x1B v
  | 0x1C => { a with ch3 := { a.ch3 with volCode := v.extractLsb' 5 2 } }
  | 0x1D => { a with ch3 := { a.ch3 with freq := freqLow a.ch3.freq v } }
  | 0x1E => { a with ch3 := a.ch3.writeNr34 v }
  | 0x20 => a.writeLength 0x20 v
  | 0x21 => { a with ch4 := { a.ch4 with env := a.ch4.env.write v } }
  | 0x22 => { a with ch4 := { a.ch4 with shift := v.extractLsb' 4 4, width := v.getLsbD 3, divCode := v.extractLsb' 0 3 } }
  | 0x23 => { a with ch4 := a.ch4.writeNr44 v }
  | 0x24 => { a with nr50 := v }
  | 0x25 => { a with nr51 := v }
  | _ => a

/-- Writing a sound register or the wave RAM (R392, R407, R408). -/
def Apu.write (a : Apu) (k : Nat) (v : Byte) : Apu :=
  if 0x30 ≤ k then { a with waveRam := a.waveRam.write (k - 0x30) v }
  else if k = 0x26 then a.writeNr52 v
  else if a.master then a.writeOn k v
  else a.writeLength k v

/-- Reading a sound register or the wave RAM: the stored fields with the read mask's bits 1 (R391 to R408). -/
def Apu.read (a : Apu) (k : Nat) : Byte :=
  if 0x30 ≤ k then a.waveRam.read .waveRam (k - 0x30)
  else
    match k with
    | 0x10 => a.sweep.read
    | 0x11 => a.ch1.duty ++ 0x3F#6
    | 0x12 => a.ch1.env.read
    | 0x14 => readControl a.ch1.lengthEn
    | 0x16 => a.ch2.duty ++ 0x3F#6
    | 0x17 => a.ch2.env.read
    | 0x19 => readControl a.ch2.lengthEn
    | 0x1A => BitVec.ofBool a.ch3.dacEn ++ 0x7F#7
    | 0x1C => (1#1 ++ a.ch3.volCode) ++ 0x1F#5
    | 0x1E => readControl a.ch3.lengthEn
    | 0x21 => a.ch4.env.read
    | 0x22 => (a.ch4.shift ++ BitVec.ofBool a.ch4.width) ++ a.ch4.divCode
    | 0x23 => readControl a.ch4.lengthEn
    | 0x24 => a.nr50
    | 0x25 => a.nr51
    | 0x26 => a.readNr52
    | _ => Config.fill

/-! The frame sequencer (R411 to R415). -/

/-- The length counter after a length clock (R412). -/
def lengthNext (lengthEn : Bool) (length : Nat) : Nat := if lengthEn then length - 1 else length

/-- The enabled flag after a length clock (R412): cleared when the counter reaches zero. -/
def enabledNext (enabled lengthEn : Bool) (length : Nat) : Bool := enabled && !(lengthEn && length == 1)

/-- Length clock of a pulse channel (R412). -/
def Pulse.lengthClock (c : Pulse) : Pulse :=
  { c with length := lengthNext c.lengthEn c.length, enabled := enabledNext c.enabled c.lengthEn c.length }

/-- Length clock of channel 3 (R412). -/
def Wave.lengthClock (c : Wave) : Wave :=
  { c with length := lengthNext c.lengthEn c.length, enabled := enabledNext c.enabled c.lengthEn c.length }

/-- Length clock of channel 4 (R412). -/
def Noise.lengthClock (c : Noise) : Noise :=
  { c with length := lengthNext c.lengthEn c.length, enabled := enabledNext c.enabled c.lengthEn c.length }

/-- `length_clock()` (R412). -/
def Apu.lengthClock (a : Apu) : Apu :=
  { a with ch1 := a.ch1.lengthClock, ch2 := a.ch2.lengthClock, ch3 := a.ch3.lengthClock, ch4 := a.ch4.lengthClock }

/-- What an envelope clock does when the envelope timer has run out (R413). -/
def Envelope.adjust (e : Envelope) : Envelope :=
  let e := { e with timer := e.period.toNat }
  if e.up ∧ e.volume < 15 then { e with volume := e.volume + 1 }
  else if !e.up ∧ 0 < e.volume then { e with volume := e.volume - 1 }
  else { e with running := false }

/-- An envelope clock (R413). -/
def Envelope.clock (e : Envelope) : Envelope :=
  if e.period ≠ 0#3 ∧ e.running then
    if e.timer - 1 = 0 then Envelope.adjust { e with timer := e.timer - 1 } else { e with timer := e.timer - 1 }
  else e

/-- `envelope_clock()` (R413). -/
def Apu.envelopeClock (a : Apu) : Apu :=
  { a with ch1 := { a.ch1 with env := a.ch1.env.clock }, ch2 := { a.ch2 with env := a.ch2.env.clock },
           ch4 := { a.ch4 with env := a.ch4.env.clock } }

/-- `sweep_tick()` (R415). -/
def Apu.sweepTick (a : Apu) : Apu :=
  let c := a.sweep.candidate
  if 2047 < c then { a with ch1 := a.ch1.disableIf true }
  else if a.sweep.shift = 0#3 then a
  else
    let sweep := { a.sweep with shadow := BitVec.ofNat 11 c }
    { a with sweep := sweep,
             ch1 := Pulse.disableIf (decide (2047 < sweep.candidate)) { a.ch1 with freq := BitVec.ofNat 11 c } }

/-- `sweep_clock()` (R414). -/
def Apu.sweepClock (a : Apu) : Apu :=
  if a.sweep.timer - 1 = 0 then
    let a := { a with sweep := { a.sweep with timer := a.sweep.reload } }
    if a.sweep.enabled ∧ a.sweep.period ≠ 0#3 then a.sweepTick else a
  else { a with sweep := { a.sweep with timer := a.sweep.timer - 1 } }

/-- What the sequencer's phase clocks (R411). -/
def Apu.phaseAction (a : Apu) : Apu :=
  match a.fsPhase.toNat with
  | 0 => a.lengthClock
  | 2 => a.lengthClock.sweepClock
  | 4 => a.lengthClock
  | 6 => a.lengthClock.sweepClock
  | 7 => a.envelopeClock
  | _ => a

/-- `frame_sequencer(t)` (R411): the phase acts, then increments. -/
def Apu.frameSequencer (t : Nat) (a : Apu) : Apu :=
  if 8192 ≤ a.fsAcc + t then
    let b := Apu.phaseAction { a with fsAcc := a.fsAcc + t - 8192 }
    { b with fsPhase := b.fsPhase + 1#3 }
  else { a with fsAcc := a.fsAcc + t }

/-! The channel generators (R416 to R419). -/

/-- Whether a period timer reaches zero or below within `t` T-cycles (R416). -/
def timerDue (timer : Int) (t : Nat) : Bool := decide (timer - t ≤ 0)

/-- The period timer after `t` T-cycles (R416): one reload at most, the residual kept. -/
def timerNext (timer : Int) (t period : Nat) : Int :=
  if timerDue timer t then timer - t + period else timer - t

/-- `pulse_step` (R417). -/
def Pulse.advance (t : Nat) (c : Pulse) : Pulse :=
  { c with timer := timerNext c.timer t c.period, step := if timerDue c.timer t then c.step + 1#3 else c.step }

/-- `wave_step` (R418). -/
def Wave.advance (t : Nat) (c : Wave) : Wave :=
  { c with timer := timerNext c.timer t c.period, index := if timerDue c.timer t then c.index + 1#5 else c.index }

/-- The LFSR's next value (R419). -/
def lfsrNext (width : Bool) (lfsr : BitVec 15) : BitVec 15 :=
  let x := lfsr.getLsbD 0 ^^ lfsr.getLsbD 1
  let shifted : BitVec 15 := BitVec.ofBool x ++ lfsr.extractLsb' 1 14
  if width then (shifted &&& ~~~0x40#15) ||| (if x then 0x40#15 else 0#15) else shifted

/-- `noise_step` (R419). -/
def Noise.advance (t : Nat) (c : Noise) : Noise :=
  { c with timer := timerNext c.timer t c.period,
           lfsr := if timerDue c.timer t then lfsrNext c.width c.lfsr else c.lfsr }

/-- The part of `apu.cycle(t)` that runs only with the master switch on (R410). -/
def Apu.generate (t : Nat) (a : Apu) : Apu :=
  let a := a.frameSequencer t
  { a with ch1 := a.ch1.advance t, ch2 := a.ch2.advance t, ch3 := a.ch3.advance t, ch4 := a.ch4.advance t }

/-! The mixer (R430 to R432), over exact rationals (R433). -/

/-- The table `DUTY` (R430). -/
def dutyBit (duty : BitVec 2) (step : BitVec 3) : Bool :=
  match duty.toNat with
  | 0 => step == 7#3
  | 1 => step == 0#3 || step == 7#3
  | 2 => step == 0#3 || step == 5#3 || step == 6#3 || step == 7#3
  | _ => step != 0#3 && step != 7#3

/-- The bipolar output of channels 1, 2 and 4 (R430). -/
def bipolar (headroom : Rat) (enabled bit : Bool) (volume : Nat) : Rat :=
  if enabled then (if bit then 1 else -1) * (volume : Rat) / 15 * headroom else 0

/-- `out(1)`, `out(2)` (R430). -/
def Pulse.out (headroom : Rat) (c : Pulse) : Rat := bipolar headroom c.enabled (dutyBit c.duty c.step) c.env.volume

/-- `out(4)` (R430). -/
def Noise.out (headroom : Rat) (c : Noise) : Rat := bipolar headroom c.enabled (!c.lfsr.getLsbD 0) c.env.volume

/-- The wave sample at the channel's index: even indexes in the high nibble (R408, R431). -/
def Apu.waveSample (a : Apu) : Nat :=
  let b := a.waveRam.read .waveRam (a.ch3.index.toNat / 2)
  if a.ch3.index.toNat % 2 = 0 then b.toNat / 16 else b.toNat % 16

/-- `out(3)` (R431). -/
def Apu.out3 (headroom : Rat) (a : Apu) : Rat :=
  if a.ch3.enabled && a.ch3.dacEn then
    let v : Nat := match a.ch3.volCode.toNat with
      | 0 => 0
      | 1 => a.waveSample
      | 2 => a.waveSample / 2
      | _ => a.waveSample / 4
    (2 * (v : Rat) - 15) / 15 * headroom
  else 0

/-- The sum of the channel outputs that the four bits of `nr51` from bit `k` on route to a side (R406, R432). -/
def Apu.routed (headroom : Rat) (a : Apu) (k : Nat) : Rat :=
  (if a.nr51.getLsbD k then a.ch1.out headroom else 0) + (if a.nr51.getLsbD (k + 1) then a.ch2.out headroom else 0)
    + (if a.nr51.getLsbD (k + 2) then a.out3 headroom else 0)
    + (if a.nr51.getLsbD (k + 3) then a.ch4.out headroom else 0)

/-- A 3-bit volume as a gain (R405). -/
def gain (v : BitVec 3) : Rat := ((v.toNat + 1 : Nat) : Rat) / 8

/-- `mix()`: left and right (R432). -/
def Apu.mix (headroom : Rat) (a : Apu) : Rat × Rat :=
  (a.routed headroom 4 * gain (a.nr50.extractLsb' 4 3), a.routed headroom 0 * gain (a.nr50.extractLsb' 0 3))

/-! Rounding to binary32 (R433). -/

/-- The quotient `n / d` rounded to the nearest integer, ties to even. -/
def roundHalfEven (n d : Nat) : Nat :=
  if n % d * 2 < d then n / d
  else if d < n % d * 2 then n / d + 1
  else if n / d % 2 = 0 then n / d else n / d + 1

/-- The exponent of `n / d`: the `e` with `2^e ≤ n/d < 2^(e+1)`, for positive `n` and `d`, not below -126. -/
def floatExponent (n d : Nat) : Int :=
  let e : Int := (Nat.log2 n : Int) - Nat.log2 d
  let fits : Bool := if 0 ≤ e then decide (d * 2 ^ e.toNat ≤ n) else decide (d ≤ n * 2 ^ (-e).toNat)
  max (-126) (if fits then e else e - 1)

/-- The binary32 encoding of the magnitude `n / d`, `d` positive: the significand is a count of units `2^(e-23)`. A
carry out of the rounded significand runs into the exponent field, as it should. -/
def float32Magnitude (n d : Nat) : Nat :=
  if n = 0 then 0
  else
    let e := floatExponent n d
    let m := if 23 ≤ e then roundHalfEven n (d * 2 ^ (e - 23).toNat) else roundHalfEven (n * 2 ^ (23 - e).toNat) d
    (e + 126).toNat * 2 ^ 23 + m

/-- The binary32 nearest to a rational, ties to even (R433). -/
def toFloat32 (x : Rat) : BitVec 32 :=
  BitVec.ofNat 32 ((if x < 0 then 2 ^ 31 else 0) + float32Magnitude x.num.natAbs x.den)

/-- A batch as the sink receives it: `L0, R0, L1, R1, …` (R440). -/
def interleave (batch : List (Rat × Rat)) : List (BitVec 32) :=
  batch.flatMap (fun p => [toFloat32 p.1, toFloat32 p.2])

/-! The resampler (R436, R438). -/

/-- The batch with the current output sample appended (R436). -/
def Apu.grown (l r : Rat) (t : Nat) (a : Apu) : List (Rat × Rat) :=
  a.batch ++ [((a.rsL + l * t) / ((a.rsN + t : Nat) : Rat), (a.rsR + r * t) / ((a.rsN + t : Nat) : Rat))]

/-- `resample(L, R, t)` with `flush_if_due()` (R436, R438); `depth` is `sink_pending()` at that instant. -/
def Apu.resample (par : Config.Audio) (depth : Nat) (l r : Rat) (t : Nat) (a : Apu) : Apu :=
  let due : Bool := decide (Config.clockHz ≤ a.rsPhase + t * par.outRate)
  let full : Bool := due && decide (par.batchN ≤ (a.grown l r t).length)
  { a with
    rsL := if due then 0 else a.rsL + l * t
    rsR := if due then 0 else a.rsR + r * t
    rsN := if due then 0 else a.rsN + t
    rsPhase := if due then a.rsPhase + t * par.outRate - Config.clockHz else a.rsPhase + t * par.outRate
    batch := if full then [] else if due then a.grown l r t else a.batch
    pushed := if full && decide (depth ≤ par.sinkMax) then a.pushed ++ [interleave (a.grown l r t)] else a.pushed }

/-- `apu.cycle(t)`, `t ≥ 1` (R410). -/
def Apu.cycle (par : Config.Audio) (depth t : Nat) (a : Apu) : Apu :=
  let b := if a.master then a.generate t else a
  b.resample par depth (b.mix par.headroom).1 (b.mix par.headroom).2 t

end Sys2Proof.Machine
end

