-- ==== Sys2Proof/Machine/Cart.lean ====
section
/-! DEFINITION. The cartridge and its bank controllers (21_cartridge.md). Addresses are the CPU's, as numbers. -/

namespace Sys2Proof.Machine

open Sys2Proof

/-- The byte at a ROM offset: the image's, else the padding (R102). -/
def Cart.romByte (k : Cart) (offset : Nat) : Byte := (k.rom.byte? offset).getD Config.romPad

/-- The ROM bank in the window `0x4000–0x7FFF` (R104, R106, R111, R114). -/
def Mbc.romBank : Mbc → Nat
  | .none => 1
  | .mbc1 _ lo hi mode => if mode then lo.toNat else 32 * hi.toNat + lo.toNat
  | .mbc2 _ bank => bank.toNat
  | .mbc3 _ bank _ _ _ _ => bank.toNat

/-- The ROM offset of an address below `0x8000` (R103, R104, R106, R111, R114). -/
def Cart.romOffset (k : Cart) (addr : Nat) : Nat :=
  if addr < 0x4000 then addr % k.romLen else (k.mbc.romBank * 0x4000 + (addr - 0x4000)) % k.romLen

/-- `Cartridge.read` (R103). -/
def Cart.read (k : Cart) (addr : Nat) : Byte := k.romByte (k.romOffset addr)

/-- A written bank number with 0 mapped to 1 (R103). -/
def bankOrOne {n : Nat} (v : BitVec n) : BitVec n := if v = 0#n then 1#n else v

/-- The enable pattern in the low nibble (R105, R110, R113). -/
def enables (v : Byte) : Bool := v.extractLsb' 0 4 == 0xA#4

/-- The registers after `Cartridge.write(addr, v)`, `addr` below `0x8000` (R104, R105, R110, R113). -/
def Mbc.write (m : Mbc) (addr : Nat) (v : Byte) : Mbc :=
  match m with
  | .none => .none
  | .mbc1 en lo hi mode =>
    if addr < 0x2000 then .mbc1 (enables v) lo hi mode
    else if addr < 0x4000 then .mbc1 en (bankOrOne (v.extractLsb' 0 5)) hi mode
    else if addr < 0x6000 then .mbc1 en lo (v.extractLsb' 0 2) mode
    else .mbc1 en lo hi (v.getLsbD 0)
  | .mbc2 en bank =>
    if addr < 0x4000 then
      if addr / 256 % 2 = 0 then .mbc2 (enables v) bank else .mbc2 en (bankOrOne (v.extractLsb' 0 4))
    else .mbc2 en bank
  | .mbc3 en bank sel prev rtc latched =>
    if addr < 0x2000 then .mbc3 (enables v) bank sel prev rtc latched
    else if addr < 0x4000 then .mbc3 en (bankOrOne (v.extractLsb' 0 7)) sel prev rtc latched
    else if addr < 0x6000 then .mbc3 en bank v prev rtc latched
    else if prev = 0x00#8 ∧ v = 0x01#8 then .mbc3 en bank sel v rtc rtc
    else .mbc3 en bank sel v rtc latched

/-- `Cartridge.write`: only registers change, never the ROM (R103). -/
def Cart.write (k : Cart) (addr : Nat) (v : Byte) : Cart := { k with mbc := k.mbc.write addr v }

/-- Clock register `i` (R113). -/
def Rtc.get (r : Rtc) (i : Nat) : Byte :=
  match i with
  | 0 => r.seconds
  | 1 => r.minutes
  | 2 => r.hours
  | 3 => r.dayLow
  | _ => r.dayHigh

/-- Writing clock register `i` (R115). -/
def Rtc.set (r : Rtc) (i : Nat) (v : Byte) : Rtc :=
  match i with
  | 0 => { r with seconds := v }
  | 1 => { r with minutes := v }
  | 2 => { r with hours := v }
  | 3 => { r with dayLow := v }
  | _ => { r with dayHigh := v }

/-- What an address of `0xA000–0xBFFF` reaches (R104, R107, R112, R115, R117). -/
inductive ExtTarget where
  /-- Nothing: disabled, absent or not selected. -/
  | absent
  /-- The RAM byte at an offset. -/
  | byte (offset : Nat)
  /-- The 4-bit RAM cell at an offset (MBC2). -/
  | nibble (offset : Nat)
  /-- Clock register `i` (MBC3). -/
  | clock (i : Nat)
  deriving DecidableEq, Repr

/-- The target of an address of `0xA000–0xBFFF`. -/
def Cart.extTarget (k : Cart) (addr : Nat) : ExtTarget :=
  match k.mbc with
  | .none => .absent
  | .mbc1 en _ hi mode =>
    if !en || k.ramLen = 0 then .absent
    else .byte (((if 8192 < k.ramLen ∧ mode then hi.toNat else 0) * 0x2000 + (addr - 0xA000)) % k.ramLen)
  | .mbc2 en _ => if en then .nibble ((addr - 0xA000) % 512) else .absent
  | .mbc3 en _ sel _ _ _ =>
    if !en then .absent
    else if sel.toNat ≤ 3 then
      if k.ramLen = 0 then .absent else .byte ((sel.toNat * 0x2000 + (addr - 0xA000)) % k.ramLen)
    else if 0x08 ≤ sel.toNat ∧ sel.toNat ≤ 0x0C then .clock (sel.toNat - 0x08)
    else .absent

/-- The latched clock registers (R115). -/
def Mbc.latchedClock : Mbc → Rtc
  | .mbc3 _ _ _ _ _ latched => latched
  | _ => Rtc.zero

/-- Writing a live clock register (R115). -/
def Mbc.setClock (m : Mbc) (i : Nat) (v : Byte) : Mbc :=
  match m with
  | .mbc3 en bank sel prev rtc latched => .mbc3 en bank sel prev (rtc.set i v) latched
  | .none => .none
  | .mbc1 en lo hi mode => .mbc1 en lo hi mode
  | .mbc2 en bank => .mbc2 en bank

/-- `Cartridge.read_ram` (R107, R112, R115, R117). -/
def Cart.readRam (k : Cart) (addr : Nat) : Byte :=
  match k.extTarget addr with
  | .absent => 0xFF#8
  | .byte o => k.ram.read .extRam o
  | .nibble o => 0xF0#8 ||| (k.ram.read .extRam o &&& 0x0F#8)
  | .clock i => k.mbc.latchedClock.get i

/-- `Cartridge.write_ram` (R107, R112, R115, R117, R119). -/
def Cart.writeRam (k : Cart) (addr : Nat) (v : Byte) : Cart :=
  match k.extTarget addr with
  | .absent => k
  | .byte o => { k with ram := k.ram.write o v, dirty := true }
  | .nibble o => { k with ram := k.ram.write o (v &&& 0x0F#8), dirty := true }
  | .clock i => { k with mbc := k.mbc.setClock i v }

/-! Construction and the save-RAM interface. -/

/-- The controller a type byte names, with its power-on registers, and whether external RAM is present (R101, R120). -/
def mbcOfType (code : Byte) : Option (Mbc × Bool) :=
  match code.toNat with
  | 0x00 => some (.none, false)
  | 0x01 => some (.mbc1 false 1#5 0#2 false, false)
  | 0x02 => some (.mbc1 false 1#5 0#2 false, true)
  | 0x03 => some (.mbc1 false 1#5 0#2 false, true)
  | 0x05 => some (.mbc2 false 1#4, true)
  | 0x06 => some (.mbc2 false 1#4, true)
  | 0x0F => some (.mbc3 false 1#7 0x00#8 0xFF#8 Rtc.zero Rtc.zero, false)
  | 0x10 => some (.mbc3 false 1#7 0x00#8 0xFF#8 Rtc.zero Rtc.zero, true)
  | 0x11 => some (.mbc3 false 1#7 0x00#8 0xFF#8 Rtc.zero Rtc.zero, false)
  | 0x12 => some (.mbc3 false 1#7 0x00#8 0xFF#8 Rtc.zero Rtc.zero, true)
  | 0x13 => some (.mbc3 false 1#7 0x00#8 0xFF#8 Rtc.zero Rtc.zero, true)
  | _ => none

/-- Whether a type byte names a cartridge with a battery, whose RAM the host keeps (R101). -/
def batteryOfType (code : Byte) : Bool := [0x03, 0x06, 0x0F, 0x10, 0x13].contains code.toNat

/-- The declared ROM size (R101). -/
def romLenOfCode (code : Byte) : Option Nat := if code.toNat ≤ 8 then some (32768 * 2 ^ code.toNat) else none

/-- The declared RAM size (R101). -/
def ramLenOfCode (code : Byte) : Option Nat :=
  match code.toNat with
  | 0 => some 0
  | 1 => some 2048
  | 2 => some 8192
  | 3 => some 32768
  | 4 => some 131072
  | 5 => some 65536
  | _ => none

/-- `ram_len` (R101): 512 for MBC2 and 0 where the type says no RAM, whatever the RAM size byte holds, else the
declared size. -/
def ramLenFor (m : Mbc) (present : Bool) (code : Byte) : Option Nat :=
  match m with
  | .mbc2 _ _ => some 512
  | .none => some 0
  | .mbc1 _ _ _ _ => if present then ramLenOfCode code else some 0
  | .mbc3 _ _ _ _ _ _ => if present then ramLenOfCode code else some 0

/-- Construction from an image (R100 to R102); `none` where construction is refused. -/
def Cart.construct (image : List Byte) : Option Cart :=
  match image[0x147]?, image[0x148]?, image[0x149]? with
  | some ty, some romCode, some ramCode =>
    match mbcOfType ty, romLenOfCode romCode with
    | some (m, present), some romLen =>
      match ramLenFor m present ramCode with
      | some ramLen =>
        some { rom := Memory.ofBytes 0 (image.take romLen), romLen := romLen, ram := Ram.fresh 0,
               ramLen := ramLen, mbc := m, dirty := false }
      | none => none
    | _, _ => none
  | _, _, _ => none

/-- `set_ram(data)` (R121): a longer dump is truncated, a shorter one leaves the tail. -/
def Cart.setRam (k : Cart) (data : List Byte) : Cart :=
  { k with ram := { k.ram with cells := k.ram.cells.overwrite (data.take k.ramLen) } }

/-- `get_ram()` (R121). -/
def Cart.getRam (k : Cart) : List Byte := (List.range k.ramLen).map (k.ram.read .extRam)

/-- `consume_dirty()` clears the flag (R119). -/
def Cart.consumeDirty (k : Cart) : Cart := { k with dirty := false }

end Sys2Proof.Machine
end

