-- ==== Sys2Proof/Machine/Joypad.lean ====
section
/-! DEFINITION. The Joypad register and its interrupt (60_exceptions.md R304, R305). -/

namespace Sys2Proof.Machine

open Sys2Proof

/-- `lines()` (R304): the four input lines, active low. -/
def Joypad.lines (j : Joypad) : BitVec 4 :=
  let dpad := BitVec.ofBool j.buttons.down ++ BitVec.ofBool j.buttons.up ++ BitVec.ofBool j.buttons.left
    ++ BitVec.ofBool j.buttons.right
  let keys := BitVec.ofBool j.buttons.start ++ BitVec.ofBool j.buttons.select ++ BitVec.ofBool j.buttons.b
    ++ BitVec.ofBool j.buttons.a
  let n : BitVec 4 := if j.select.getLsbD 0 then 0xF#4 else 0xF#4 &&& ~~~dpad
  if j.select.getLsbD 1 then n else n &&& ~~~keys

/-- `edge(old, new)` with `new` the lines now (R305). -/
def Joypad.edgeFrom (old : BitVec 4) (j : Joypad) : Joypad :=
  if old &&& ~~~j.lines = 0#4 then j else { j with intMask := j.intMask ||| 0b10000#5 }

/-- Reading P1 (R304). -/
def Joypad.read (j : Joypad) : Byte := (0b11#2 ++ j.select) ++ j.lines

/-- Writing P1 (R304). -/
def Joypad.write (j : Joypad) (v : Byte) : Joypad := Joypad.edgeFrom j.lines { j with select := v.extractLsb' 4 2 }

/-- `set_buttons` (R305). -/
def Joypad.setButtons (j : Joypad) (b : Buttons) : Joypad := Joypad.edgeFrom j.lines { j with buttons := b }

end Sys2Proof.Machine
end

