-- ==== Sys2Proof/Machine/Bits.lean ====
section
/-! DEFINITION. Byte and word helpers (00_scope.md R7, R8). -/

namespace Sys2Proof.Machine

open Sys2Proof

/-- `v[7:0]`: the byte that a 16-bit datum stores first (20_memory.md R76). -/
def loByte (v : Word) : Byte := v.extractLsb' 0 8

/-- `v[15:8]`: the byte that a 16-bit datum stores second (R76). -/
def hiByte (v : Word) : Byte := v.extractLsb' 8 8

/-- `sext_16(b)` (R8). -/
def sext16 (b : Byte) : Word := b.signExtend 16

/-- The low nibble as a number. -/
def lowNibble (b : Byte) : Nat := (b &&& 0x0F#8).toNat

end Sys2Proof.Machine
end

