-- ==== Sys2Proof/Machine/Flags.lean ====
section
/-! DEFINITION. The flags (10_state.md R24, R25) and every flag computation of the instruction rules. Arithmetic is on
unbounded numbers and narrowed at the end, so carries are comparisons of the exact result (00_scope.md R7). -/

namespace Sys2Proof.Machine

open Sys2Proof

/-- The four flags of `F` (R24). -/
structure Flags where
  z : Bool
  n : Bool
  h : Bool
  c : Bool
  deriving DecidableEq, Repr

/-- The byte `F` that holds four flags: bits 3:0 are zero (R24). -/
def Flags.pack (g : Flags) : Byte :=
  (((BitVec.ofBool g.z ++ BitVec.ofBool g.n) ++ BitVec.ofBool g.h) ++ BitVec.ofBool g.c) ++ 0#4

/-- The flags that a byte `F` holds (R24). -/
def Flags.ofByte (f : Byte) : Flags :=
  { z := f.getLsbD 7, n := f.getLsbD 6, h := f.getLsbD 5, c := f.getLsbD 4 }

/-- `cond(cc)` of the flags (45_control.md R249). -/
def Flags.meet (g : Flags) (cc : Cond) : Bool :=
  match cc with
  | .nz => !g.z
  | .z => g.z
  | .nc => !g.c
  | .c => g.c

/-! The eight accumulator operations (42_alu8.md R190 to R197): result and flags. -/

/-- `a + v + c` (R190 with `c = 0`, R191). -/
def aluAdd (a v : Byte) (c : Bool) : Byte × Flags :=
  let s := a.toNat + v.toNat + c.toNat
  (BitVec.ofNat 8 s,
   { z := decide (s % 256 = 0), n := false, h := decide (0x0F < lowNibble a + lowNibble v + c.toNat),
     c := decide (0xFF < s) })

/-- `a - v - c` (R192 with `c = 0`, R193): the comparisons are of unbounded numbers. -/
def aluSub (a v : Byte) (c : Bool) : Byte × Flags :=
  let r := BitVec.ofInt 8 ((a.toNat : Int) - v.toNat - c.toNat)
  (r,
   { z := r == 0#8, n := true, h := decide (lowNibble a < lowNibble v + c.toNat),
     c := decide (a.toNat < v.toNat + c.toNat) })

/-- `AND` (R194). -/
def aluAnd (a v : Byte) : Byte × Flags := (a &&& v, { z := (a &&& v) == 0#8, n := false, h := true, c := false })

/-- `XOR` (R195). -/
def aluXor (a v : Byte) : Byte × Flags := (a ^^^ v, { z := (a ^^^ v) == 0#8, n := false, h := false, c := false })

/-- `OR` (R196). -/
def aluOr (a v : Byte) : Byte × Flags := (a ||| v, { z := (a ||| v) == 0#8, n := false, h := false, c := false })

/-- The operation a code `y` names (R206), from the old accumulator, the operand and the old flags to the new
accumulator and flags. `CP` subtracts and keeps the accumulator (R197). -/
def alu (op : AluOp) (a v : Byte) (g : Flags) : Byte × Flags :=
  match op with
  | .add => aluAdd a v false
  | .adc => aluAdd a v g.c
  | .sub => aluSub a v false
  | .sbc => aluSub a v g.c
  | .and => aluAnd a v
  | .xor => aluXor a v
  | .or => aluOr a v
  | .cp => (a, (aluSub a v false).2)

/-! Increment, decrement and the accumulator adjustments (R198 to R205). -/

/-- `INC` of a byte (R198): `C` is kept. -/
def incByte (v : Byte) (g : Flags) : Byte × Flags :=
  (v + 1#8, { z := (v + 1#8) == 0#8, n := false, h := lowNibble v == 0x0F, c := g.c })

/-- `DEC` of a byte (R200): `C` is kept. -/
def decByte (v : Byte) (g : Flags) : Byte × Flags :=
  (v - 1#8, { z := (v - 1#8) == 0#8, n := true, h := lowNibble v == 0x00, c := g.c })

/-- The carry after `DAA` (R202): set by an upper-digit adjustment after an addition, never cleared. -/
def daaCarry (a : Byte) (g : Flags) : Bool := g.c || (!g.n && decide (0x99 < a.toNat))

/-- The accumulator after `DAA`, before reduction mod 256 (R202). -/
def daaSum (a : Byte) (g : Flags) : Int :=
  if g.n then (a.toNat : Int) - (if g.c then 0x60 else 0) - (if g.h then 0x06 else 0)
  else (a.toNat : Int) + (if daaCarry a g then 0x60 else 0) + (if g.h ∨ 0x09 < lowNibble a then 0x06 else 0)

/-- `DAA` (R202). -/
def daaAdjust (a : Byte) (g : Flags) : Byte × Flags :=
  let r := BitVec.ofInt 8 (daaSum a g)
  (r, { z := r == 0#8, n := g.n, h := false, c := daaCarry a g })

/-! 16-bit arithmetic (43_alu16.md R210, R213; 41_load16.md R183). -/

/-- `ADD HL,rp` (R210): `Z` is kept. -/
def addWords (a v : Word) (g : Flags) : Word × Flags :=
  (BitVec.ofNat 16 (a.toNat + v.toNat),
   { z := g.z, n := false, h := decide (0x0FFF < (a &&& 0x0FFF#16).toNat + (v &&& 0x0FFF#16).toNat),
     c := decide (0xFFFF < a.toNat + v.toNat) })

/-- `SP + e8` (R183, R213): the carries are those of the unsigned low bytes. -/
def spOffset (sp : Word) (e : Byte) : Word × Flags :=
  (sp + sext16 e,
   { z := false, n := false, h := decide (0x0F < (sp &&& 0x000F#16).toNat + lowNibble e),
     c := decide (0xFF < (sp &&& 0x00FF#16).toNat + e.toNat) })

/-! Rotates, shifts and single bits (44_rotate_bit.md). -/

/-- The result and the bit shifted out (R224 to R231; `carry` is the old `C`). -/
def rotate (op : RotOp) (v : Byte) (carry : Bool) : Byte × Bool :=
  match op with
  | .rlc => (v.extractLsb' 0 7 ++ BitVec.ofBool (v.getLsbD 7), v.getLsbD 7)
  | .rrc => (BitVec.ofBool (v.getLsbD 0) ++ v.extractLsb' 1 7, v.getLsbD 0)
  | .rl => (v.extractLsb' 0 7 ++ BitVec.ofBool carry, v.getLsbD 7)
  | .rr => (BitVec.ofBool carry ++ v.extractLsb' 1 7, v.getLsbD 0)
  | .sla => (v.extractLsb' 0 7 ++ 0#1, v.getLsbD 7)
  | .sra => (BitVec.ofBool (v.getLsbD 7) ++ v.extractLsb' 1 7, v.getLsbD 0)
  | .swap => (v.extractLsb' 0 4 ++ v.extractLsb' 4 4, false)
  | .srl => (0#1 ++ v.extractLsb' 1 7, v.getLsbD 0)

/-- The flags of an extended rotate, shift or `SWAP` with result `r` and carry `c` (R224 to R231). -/
def rotateFlags (r : Byte) (c : Bool) : Flags := { z := r == 0#8, n := false, h := false, c := c }

/-- The flags of `RLCA`, `RRCA`, `RLA`, `RRA`: `Z` is always cleared (R220 to R223). -/
def rotateAFlags (c : Bool) : Flags := { z := false, n := false, h := false, c := c }

/-- The flags of `BIT b,t` on the byte `v` (R232): `C` is kept. -/
def bitFlags (b : Nat) (v : Byte) (g : Flags) : Flags := { z := !v.getLsbD b, n := false, h := true, c := g.c }

/-- The byte with bit `b` set alone. -/
def bitMask (b : Nat) : Byte := 1#8 <<< b

end Sys2Proof.Machine
end

