-- ==== Sys2Proof/Machine/Operands.lean ====
section
/-! DEFINITION. The register file: reading and writing every register operand (10_state.md R20 to R24; 00_scope.md
R9). Memory operands are in Machine/Ops.lean, beside the bus. -/

namespace Sys2Proof.Machine

open Sys2Proof

/-- `x[r]` for an 8-bit register operand (R9). -/
def Cpu.get8 (p : Cpu) (r : Reg8) : Byte :=
  match r with
  | .b => p.b
  | .c => p.c
  | .d => p.d
  | .e => p.e
  | .h => p.h
  | .l => p.l
  | .a => p.a

/-- `x[r] <- v` for an 8-bit register operand (R9). -/
def Cpu.set8 (p : Cpu) (r : Reg8) (v : Byte) : Cpu :=
  match r with
  | .b => { p with b := v }
  | .c => { p with c := v }
  | .d => { p with d := v }
  | .e => { p with e := v }
  | .h => { p with h := v }
  | .l => { p with l := v }
  | .a => { p with a := v }

/-- `x[rp]` (R9): the high register in bits 15:8 (R21). -/
def Cpu.getPair (p : Cpu) (rp : Pair) : Word :=
  match rp with
  | .bc => p.b ++ p.c
  | .de => p.d ++ p.e
  | .hl => p.h ++ p.l
  | .sp => p.sp
  | .af => p.a ++ p.f

/-- `x[rp] <- v` (R9): a write to `F` stores `v & 0xF0` (R24). -/
def Cpu.setPair (p : Cpu) (rp : Pair) (v : Word) : Cpu :=
  match rp with
  | .bc => { p with b := hiByte v, c := loByte v }
  | .de => { p with d := hiByte v, e := loByte v }
  | .hl => { p with h := hiByte v, l := loByte v }
  | .sp => { p with sp := v }
  | .af => { p with a := hiByte v, f := loByte v &&& 0xF0#8 }

/-- `x[HL]`, the one pair that addresses the operand `(HL)` (R21). -/
def Cpu.hl (p : Cpu) : Word := p.getPair .hl

/-- The flags. -/
def Cpu.flags (p : Cpu) : Flags := Flags.ofByte p.f

/-- `flags <- g` (R9). -/
def Cpu.setFlags (p : Cpu) (g : Flags) : Cpu := { p with f := g.pack }

/-- `cycles <- n` (00_scope.md R11). -/
def Cpu.spend (n : Nat) (p : Cpu) : Cpu := { p with cycles := n }

end Sys2Proof.Machine
end

