-- ==== Sys2Proof/Machine/Ppu.lean ====
section
/-! DEFINITION. The PPU (62_ppu.md): registers, mode state machine and scanline renderer. -/

namespace Sys2Proof.Machine

open Sys2Proof

/-! CPU access to VRAM and OAM, gated by the mode (20_memory.md R65, R69). -/

/-- Whether the CPU reaches VRAM (R65). -/
def Ppu.vramOpen (p : Ppu) : Bool := p.mode != .pixelTransfer

/-- Whether the CPU reaches OAM (R69). -/
def Ppu.oamOpen (p : Ppu) : Bool := p.mode != .pixelTransfer && p.mode != .oamScan

/-- The CPU's read of VRAM offset `k` (R65). -/
def Ppu.readVram (p : Ppu) (k : Nat) : Byte := if p.vramOpen then p.vram.read .vram k else 0xFF#8

/-- The CPU's write of VRAM offset `k` (R65). -/
def Ppu.writeVram (p : Ppu) (k : Nat) (v : Byte) : Ppu := if p.vramOpen then { p with vram := p.vram.write k v } else p

/-- The CPU's read of OAM offset `k` (R69). -/
def Ppu.readOam (p : Ppu) (k : Nat) : Byte := if p.oamOpen then p.oam.read .oam k else 0xFF#8

/-- A write of OAM offset `k` that no gate stops: the DMA's (20_memory.md R75). -/
def Ppu.putOam (p : Ppu) (k : Nat) (v : Byte) : Ppu := { p with oam := p.oam.write k v }

/-- The CPU's write of OAM offset `k` (R69). -/
def Ppu.writeOam (p : Ppu) (k : Nat) (v : Byte) : Ppu := if p.oamOpen then p.putOam k v else p

/-! Registers. -/

/-- The mode number of STAT bits 1:0 (R341). -/
def PpuMode.number : PpuMode → BitVec 2
  | .hblank => 0#2
  | .vblank => 1#2
  | .oamScan => 2#2
  | .pixelTransfer => 3#2

/-- `lyc_flag <- (ly = lyc)` (R353). -/
def Ppu.withLycFlag (p : Ppu) : Ppu := { p with lycFlag := decide (p.ly = p.lyc.toNat) }

/-- Requesting the STAT interrupt (R354). -/
def Ppu.raiseStat (p : Ppu) : Ppu := { p with intMask := p.intMask ||| 0b00010#5 }

/-- Requesting the STAT interrupt if select bit `k` is set (R350, R354). -/
def Ppu.raiseStatIf (p : Ppu) (k : Nat) : Ppu := if p.statSel.getLsbD k then p.raiseStat else p

/-- `compare_lyc()` (R353). -/
def Ppu.compareLyc (p : Ppu) : Ppu := if p.withLycFlag.lycFlag then p.withLycFlag.raiseStatIf 3 else p.withLycFlag

/-- `lcd_off()` (R352). A buffer with no line listed is all `PALETTE_RGB[0]`, all index 0. -/
def Ppu.lcdOff (p : Ppu) : Ppu :=
  { Ppu.withLycFlag { p with dot := 0, ly := 0, mode := .hblank } with fb := [], ci := [], frameReady := true }

/-- `lcd_on()` (R352). -/
def Ppu.lcdOn (p : Ppu) : Ppu := Ppu.withLycFlag { p with dot := 0, ly := 0, mode := .oamScan }

/-- A write to LCDC (R342). -/
def Ppu.writeLcdc (p : Ppu) (v : Byte) : Ppu :=
  if p.lcdc.getLsbD 7 && !v.getLsbD 7 then Ppu.lcdOff { p with lcdc := v }
  else if !p.lcdc.getLsbD 7 && v.getLsbD 7 then Ppu.lcdOn { p with lcdc := v }
  else { p with lcdc := v }

/-- Reading STAT (R343). -/
def Ppu.readStat (p : Ppu) : Byte := ((1#1 ++ p.statSel) ++ BitVec.ofBool p.lycFlag) ++ p.mode.number

/-- Reading `0xFF00 + k`, `k` in 0x40..0x4B without 0x46 (R342 to R346). -/
def Ppu.read (p : Ppu) (k : Nat) : Byte :=
  match k with
  | 0x40 => p.lcdc
  | 0x41 => p.readStat
  | 0x42 => p.scy
  | 0x43 => p.scx
  | 0x44 => BitVec.ofNat 8 p.ly
  | 0x45 => p.lyc
  | 0x47 => p.bgp
  | 0x48 => p.obp0
  | 0x49 => p.obp1
  | 0x4A => p.wy
  | 0x4B => p.wx
  | _ => Config.fill

/-- Writing `0xFF00 + k`, `k` in 0x40..0x4B without 0x46 (R342 to R346): a write to LY is ignored. -/
def Ppu.write (p : Ppu) (k : Nat) (v : Byte) : Ppu :=
  match k with
  | 0x40 => p.writeLcdc v
  | 0x41 => { p with statSel := v.extractLsb' 3 4 }
  | 0x42 => { p with scy := v }
  | 0x43 => { p with scx := v }
  | 0x45 => Ppu.withLycFlag { p with lyc := v }
  | 0x47 => { p with bgp := v }
  | 0x48 => { p with obp0 := v }
  | 0x49 => { p with obp1 := v }
  | 0x4A => { p with wy := v }
  | 0x4B => { p with wx := v }
  | _ => p

/-! The scanline renderer (R360 to R368). VRAM and OAM are read as arrays, past the gate (R360). -/

/-- `shade(p, c)`: the two bits of palette `pal` for colour index `c` (R346). -/
def shade (pal : Byte) (c : BitVec 2) : BitVec 2 := pal.extractLsb' (2 * c.toNat) 2

/-- The colour index that bit `k` of the two bitplane bytes gives (R348). -/
def planes (lo hi : Byte) (k : Nat) : BitVec 2 := BitVec.ofBool (hi.getLsbD k) ++ BitVec.ofBool (lo.getLsbD k)

/-- The VRAM offset of the tile map that LCDC bit `k` selects (R361). -/
def Ppu.mapBase (p : Ppu) (k : Nat) : Nat := if p.lcdc.getLsbD k then 0x1C00 else 0x1800

/-- Whether the window covers column `x` of line `y` (R361). -/
def Ppu.useWindow (p : Ppu) (y x : Nat) : Bool :=
  p.lcdc.getLsbD 5 && decide (p.wy.toNat ≤ y) && decide (p.wx.toNat ≤ x + 7)

/-- The VRAM offset of background tile `id` (R362). -/
def Ppu.bgTile (p : Ppu) (id : Byte) : Nat :=
  if p.lcdc.getLsbD 4 then 16 * id.toNat else 0x800 + 16 * ((id.toNat + 128) % 256)

/-- The colour index at column `px`, row `py` of the map at VRAM offset `map` (R362, R363). -/
def Ppu.mapPixel (p : Ppu) (map px py : Nat) : BitVec 2 :=
  let tile := p.bgTile (p.vram.read .vram (map + 32 * (py / 8) + px / 8))
  planes (p.vram.read .vram (tile + 2 * (py % 8))) (p.vram.read .vram (tile + 2 * (py % 8) + 1)) (7 - px % 8)

/-- The background or window colour index at column `x` of line `y` (R361). -/
def Ppu.bgPixel (p : Ppu) (y x : Nat) : BitVec 2 :=
  if p.useWindow y x then p.mapPixel (p.mapBase 6) (x + 7 - p.wx.toNat) (y - p.wy.toNat)
  else p.mapPixel (p.mapBase 3) ((x + p.scx.toNat) % 256) ((y + p.scy.toNat) % 256)

/-- The colour indexes of line `y` (R361 to R365). -/
def Ppu.bgLine (p : Ppu) (y : Nat) : Row :=
  if p.lcdc.getLsbD 0 then (List.range Config.lcdW).map (p.bgPixel y) else List.replicate Config.lcdW 0#2

/-- The shades of a line of colour indexes (R364): blank where the background is disabled (R365). -/
def Ppu.bgShades (p : Ppu) (line : Row) : Row :=
  if p.lcdc.getLsbD 0 then line.map (shade p.bgp) else List.replicate Config.lcdW 0#2

/-- Byte `k` of OAM entry `i` (R349). -/
def Ppu.oamByte (p : Ppu) (i k : Nat) : Byte := p.oam.read .oam (4 * i + k)

/-- The sprite height (R366). -/
def Ppu.spriteHeight (p : Ppu) : Nat := if p.lcdc.getLsbD 2 then 16 else 8

/-- Whether sprite `i` overlaps line `y`: `top ≤ y < top + h` with `top = oam[4i] - 16` (R366). -/
def Ppu.overlaps (p : Ppu) (y i : Nat) : Bool :=
  decide ((p.oamByte i 0).toNat ≤ y + 16) && decide (y + 16 < (p.oamByte i 0).toNat + p.spriteHeight)

/-- The sprites of line `y` in OAM order, at most ten (R366). -/
def Ppu.spritesOf (p : Ppu) (y : Nat) : List Nat :=
  if p.lcdc.getLsbD 1 then ((List.range 40).filter (p.overlaps y)).take 10 else []

/-- The tile row of sprite `i` on line `y`, after the vertical flip (R368). -/
def Ppu.spriteRow (p : Ppu) (y i : Nat) : Nat :=
  let r := y + 16 - (p.oamByte i 0).toNat
  if (p.oamByte i 3).getLsbD 6 then p.spriteHeight - 1 - r else r

/-- The VRAM offset of the two bitplane bytes of sprite `i` on line `y` (R368). -/
def Ppu.spriteData (p : Ppu) (y i : Nat) : Nat :=
  let t := p.oamByte i 2
  16 * (if p.spriteHeight = 16 then t &&& 0xFE#8 else t).toNat + 2 * p.spriteRow y i

/-- The shade sprite `i` draws at column `x` of line `y` over background index `c`, if it draws there (R368). -/
def Ppu.spritePixel (p : Ppu) (y i x : Nat) (c : BitVec 2) : Option (BitVec 2) :=
  let left := (p.oamByte i 1).toNat
  let attr := p.oamByte i 3
  if left ≤ x + 8 ∧ x < left then
    let k := x + 8 - left
    let data := p.spriteData y i
    let idx := planes (p.vram.read .vram data) (p.vram.read .vram (data + 1)) (if attr.getLsbD 5 then k else 7 - k)
    if idx = 0#2 ∨ (attr.getLsbD 7 ∧ c ≠ 0#2) then none
    else some (shade (if attr.getLsbD 4 then p.obp1 else p.obp0) idx)
  else none

/-- Drawing sprite `i` on line `y` over the shades `line` from column `x` on, `bg` the background indexes (R368). -/
def Ppu.drawSprite (p : Ppu) (y i : Nat) : Nat → Row → Row → Row
  | x, c :: bg, s :: line => (p.spritePixel y i x c).getD s :: Ppu.drawSprite p y i (x + 1) bg line
  | _, _, line => line

/-- Drawing the sprites of line `y`, the last collected first, so that the first collected ends on top (R367). -/
def Ppu.drawSprites (p : Ppu) (y : Nat) (bg line : Row) : Row :=
  (p.spritesOf y).reverse.foldl (fun acc i => p.drawSprite y i 0 bg acc) line

/-- `render_line()` for line `ly` (R360). -/
def Ppu.renderLine (p : Ppu) : Ppu :=
  let bg := p.bgLine p.ly
  { p with ci := p.ci.put p.ly bg, fb := p.fb.put p.ly (p.drawSprites p.ly bg (p.bgShades bg)) }

/-- The pixel the host sees at column `x` of line `y` (R364, R372). -/
def Ppu.pixel (p : Ppu) (x y : Nat) : Config.Rgba := Config.palette ((p.fb.row y).pixel x)

/-- Byte `k` of the framebuffer (R372). -/
def Ppu.fbByte (p : Ppu) (k : Nat) : Byte :=
  let q := p.pixel (k / 4 % Config.lcdW) (k / 4 / Config.lcdW)
  match k % 4 with
  | 0 => q.r
  | 1 => q.g
  | 2 => q.b
  | _ => q.a

/-! The mode state machine (R350). -/

/-- A line start: the new line's mode event (R350). -/
def Ppu.enterLine (p : Ppu) : Ppu :=
  if p.ly = 144 then
    { Ppu.raiseStatIf { p with mode := .vblank, intMask := p.intMask ||| 0b00001#5 } 1 with frameReady := true }
  else if p.ly < 144 then Ppu.raiseStatIf { p with mode := .oamScan } 2
  else p

/-- One dot (R350). -/
def Ppu.tick (p : Ppu) : Ppu :=
  if p.mode = .oamScan ∧ p.dot + 1 = 80 then { p with dot := p.dot + 1, mode := .pixelTransfer }
  else if p.mode = .pixelTransfer ∧ p.dot + 1 = 252 then
    (Ppu.renderLine { p with dot := p.dot + 1, mode := .hblank }).raiseStatIf 0
  else if p.dot + 1 = 456 then (Ppu.enterLine { p with dot := 0, ly := (p.ly + 1) % 154 }).compareLyc
  else { p with dot := p.dot + 1 }

/-- `n` dots. -/
def Ppu.ticks : Nat → Ppu → Ppu
  | 0, p => p
  | n + 1, p => Ppu.ticks n p.tick

/-- `ppu.cycle(n)`: nothing while the LCD is off (R350). -/
def Ppu.cycle (n : Nat) (p : Ppu) : Ppu := if p.lcdc.getLsbD 7 then Ppu.ticks n p else p

end Sys2Proof.Machine
end

