-- ==== Sys2Proof/Machine/Timer.lean ====
section
/-! DEFINITION. The Timer (61_timer.md). -/

namespace Sys2Proof.Machine

open Sys2Proof

/-- The divider bit that `tac[1:0]` selects (R321). -/
def Timer.selBit (t : Timer) : Nat :=
  match (t.tac.extractLsb' 0 2).toNat with
  | 0 => 9
  | 1 => 3
  | 2 => 5
  | _ => 7

/-- The watched signal: enable AND selected divider bit (R321). -/
def Timer.sig (t : Timer) : Bool := t.tac.getLsbD 2 && t.div16.getLsbD t.selBit

/-- `tima_increment()` (R327). -/
def Timer.increment (t : Timer) : Timer :=
  if t.tima = 0xFF#8 then { t with tima := t.tma, intMask := t.intMask ||| 0b00100#5 }
  else { t with tima := t.tima + 1#8 }

/-- What a change of the watched signal from `old` does (R321): a falling edge increments `TIMA`. -/
def Timer.edgeFrom (old : Bool) (t : Timer) : Timer := if old && !t.sig then t.increment else t

/-- A write to DIV, whatever the value (R322). -/
def Timer.writeDiv (t : Timer) : Timer := Timer.edgeFrom t.sig { t with div16 := 0x0000#16 }

/-- A write to TAC (R325). -/
def Timer.writeTac (t : Timer) (v : Byte) : Timer := Timer.edgeFrom t.sig { t with tac := v.extractLsb' 0 3 }

/-- Reading `0xFF04 + k` (R322 to R325). -/
def Timer.read (t : Timer) (k : Nat) : Byte :=
  match k with
  | 0 => t.div16.extractLsb' 8 8
  | 1 => t.tima
  | 2 => t.tma
  | _ => 0xF8#8 ||| t.tac.setWidth 8

/-- Writing `0xFF04 + k` (R322 to R325). -/
def Timer.write (t : Timer) (k : Nat) (v : Byte) : Timer :=
  match k with
  | 0 => t.writeDiv
  | 1 => { t with tima := v }
  | 2 => { t with tma := v }
  | _ => t.writeTac v

/-- One T-cycle (R326). -/
def Timer.tick (t : Timer) : Timer := Timer.edgeFrom t.sig { t with div16 := t.div16 + 1#16 }

/-- `timer.cycle(n)` (R326). -/
def Timer.cycle : Nat → Timer → Timer
  | 0, t => t
  | n + 1, t => Timer.cycle n t.tick

end Sys2Proof.Machine
end

