-- ==== Sys2Proof/Machine/Ops.lean ====
section
/-! DEFINITION. The bus (20_memory.md): the address decoder, `read8`, `write8`, OAM DMA, 16-bit accesses, the stack,
the instruction fetch, and the operations shared by the meanings: taking an interrupt and returning from one, the
fatal exception, and running the devices for a tick. -/

namespace Sys2Proof.Machine

open Sys2Proof

/-! The address map (R63). -/

/-- Where an address is routed. -/
inductive Route where
  /-- `0x0000–0x7FFF`: the cartridge's ROM and registers, at the CPU's address. -/
  | rom (addr : Nat)
  /-- `0x8000–0x9FFF`: VRAM, by offset. -/
  | vram (offset : Nat)
  /-- `0xA000–0xBFFF`: external RAM, at the CPU's address. -/
  | ext (addr : Nat)
  /-- `0xC000–0xDFFF` and its echo `0xE000–0xFDFF`: work RAM, by offset. -/
  | wram (offset : Nat)
  /-- `0xFE00–0xFE9F`: OAM, by offset. -/
  | oam (offset : Nat)
  /-- `0xFEA0–0xFEFF`. -/
  | unusable
  /-- `0xFF00–0xFF7F`: an I/O register, by its low byte. -/
  | io (port : Nat)
  /-- `0xFF80–0xFFFE`: high RAM, by offset. -/
  | hram (offset : Nat)
  /-- `0xFFFF`: `IE`. -/
  | ie
  deriving DecidableEq, Repr

/-- The address decoder (R63): total, ranges disjoint (R61). -/
def route (addr : Word) : Route :=
  let a := addr.toNat
  if a < 0x8000 then .rom a
  else if a < 0xA000 then .vram (a - 0x8000)
  else if a < 0xC000 then .ext a
  else if a < 0xE000 then .wram (a - 0xC000)
  else if a < 0xFE00 then .wram (a - 0xE000)
  else if a < 0xFEA0 then .oam (a - 0xFE00)
  else if a < 0xFF00 then .unusable
  else if a < 0xFF80 then .io (a - 0xFF00)
  else if a < 0xFFFF then .hram (a - 0xFF80)
  else .ie

/-- The owner of an I/O register (R70). -/
inductive Port where
  | joypad
  | timer (k : Nat)
  | intFlag
  | sound (k : Nat)
  | video (k : Nat)
  | dma
  | unmapped
  deriving DecidableEq, Repr

/-- The dispatch of `0xFF00 + k` (R70). -/
def port (k : Nat) : Port :=
  if k = 0x00 then .joypad
  else if 0x04 ≤ k ∧ k ≤ 0x07 then .timer (k - 0x04)
  else if k = 0x0F then .intFlag
  else if 0x10 ≤ k ∧ k ≤ 0x3F then .sound k
  else if k = 0x46 then .dma
  else if 0x40 ≤ k ∧ k ≤ 0x4B then .video k
  else .unmapped

/-! `read8` (R62): no read changes any state (R74). -/

/-- Reading an I/O register (R70). -/
def readPort (s : State) (k : Nat) : Byte :=
  match port k with
  | .joypad => s.joypad.read
  | .timer j => s.timer.read j
  | .intFlag => 0b111#3 ++ s.bus.ifReg
  | .sound j => s.apu.read j
  | .video j => s.ppu.read j
  | .dma => s.bus.dmaReg
  | .unmapped => Config.fill

/-- `read8(addr)` (R62 to R72). -/
def read8 (s : State) (addr : Word) : Byte :=
  match route addr with
  | .rom a => s.cart.read a
  | .vram k => s.ppu.readVram k
  | .ext a => s.cart.readRam a
  | .wram k => s.bus.wram.read .wram k
  | .oam k => s.ppu.readOam k
  | .unusable => Config.fill
  | .io k => readPort s k
  | .hram k => s.bus.hram.read .hram k
  | .ie => s.bus.ie

/-! `write8` (R62). -/

/-- `n` bytes of the OAM DMA copy, from byte `i` on (R75): each byte is fetched with the ordinary `read8`, and stored
whatever the PPU's mode. -/
def dmaCopy : Nat → Nat → Word → State → State
  | 0, _, _, s => s
  | n + 1, i, base, s =>
    dmaCopy n (i + 1) base { s with ppu := s.ppu.putOam i (read8 s (base + BitVec.ofNat 16 i)) }

/-- A write to the DMA register (R75). -/
def oamDma (s : State) (v : Byte) : State :=
  dmaCopy 160 0 (v ++ 0x00#8) { s with bus := { s.bus with dmaReg := v } }

/-- Writing an I/O register (R70). -/
def writePort (s : State) (k : Nat) (v : Byte) : State :=
  match port k with
  | .joypad => { s with joypad := s.joypad.write v }
  | .timer j => { s with timer := s.timer.write j v }
  | .intFlag => { s with bus := { s.bus with ifReg := v.extractLsb' 0 5 } }
  | .sound j => { s with apu := s.apu.write j v }
  | .video j => { s with ppu := s.ppu.write j v }
  | .dma => oamDma s v
  | .unmapped => s

/-- `write8(addr, v)` (R62 to R72): it always completes. -/
def write8 (s : State) (addr : Word) (v : Byte) : State :=
  match route addr with
  | .rom a => { s with cart := s.cart.write a v }
  | .vram k => { s with ppu := s.ppu.writeVram k v }
  | .ext a => { s with cart := s.cart.writeRam a v }
  | .wram k => { s with bus := { s.bus with wram := s.bus.wram.write k v } }
  | .oam k => { s with ppu := s.ppu.writeOam k v }
  | .unusable => s
  | .io k => writePort s k v
  | .hram k => { s with bus := { s.bus with hram := s.bus.hram.write k v } }
  | .ie => { s with bus := { s.bus with ie := v } }

/-! 16-bit accesses and the stack (00_scope.md R10). -/

/-- `MemRead(addr, 2)`: two byte accesses, the low byte first. -/
def read16 (s : State) (addr : Word) : Word := read8 s (addr + 1#16) ++ read8 s addr

/-- `MemWrite(addr, 2, v)`: two byte accesses, the low byte first. -/
def write16 (s : State) (addr v : Word) : State := write8 (write8 s addr (loByte v)) (addr + 1#16) (hiByte v)

/-- The CPU's own registers replaced. -/
def State.setCpu (s : State) (c : Cpu) : State := { s with cpu := c }

/-- The CPU's own registers changed by `f`. -/
def State.onCpu (s : State) (f : Cpu → Cpu) : State := s.setCpu (f s.cpu)

/-- `sp <- v`. -/
def State.setSp (s : State) (v : Word) : State := s.setCpu { s.cpu with sp := v }

/-- `pc <- v`. -/
def State.setPc (s : State) (v : Word) : State := s.setCpu { s.cpu with pc := v }

/-- `cycles <- n` (R11). -/
def State.spend (s : State) (n : Nat) : State := s.setCpu { s.cpu with cycles := n }

/-- `Push16(v)`: `sp` is decremented first. -/
def push16 (s : State) (v : Word) : State := write16 (s.setSp (s.cpu.sp - 2#16)) (s.cpu.sp - 2#16) v

/-- The value `Pop16()` returns. -/
def popped (s : State) : Word := read16 s s.cpu.sp

/-- What `Pop16()` does to the state. -/
def afterPop (s : State) : State := s.setSp (s.cpu.sp + 2#16)

/-! Operands in memory. -/

/-- The byte of an 8-bit operand: `get()` of 44_rotate_bit.md R235. -/
def getOperand (s : State) (o : Operand8) : Byte :=
  match o with
  | .reg r => s.cpu.get8 r
  | .atHL => read8 s s.cpu.hl

/-- Storing to an 8-bit operand: `put(v)` of R235. -/
def putOperand (s : State) (o : Operand8) (v : Byte) : State :=
  match o with
  | .reg r => s.setCpu (s.cpu.set8 r v)
  | .atHL => write8 s s.cpu.hl v

/-- The address `0xFF00 + o` of the high page (40_load8.md R172 to R175). -/
def highPage (o : Byte) : Word := 0xFF#8 ++ o

/-! The instruction fetch (20_memory.md R82; 10_state.md R23). -/

/-- The instruction at `pc` and its length. An operand byte that the instruction does not have is looked at but not
used, and no read has a side effect (R74). -/
def fetched (s : State) : Instr × Nat :=
  decodeWindow (read8 s s.cpu.pc) (read8 s (s.cpu.pc + 1#16)) (read8 s (s.cpu.pc + 2#16))

/-- `pc` moved past `n` fetched bytes (R23). -/
def advance (s : State) (n : Nat) : State := s.setPc (s.cpu.pc + BitVec.ofNat 16 n)

/-! Exceptions and interrupts (60_exceptions.md). -/

/-- `raise FatalDecode(op, a)` with `a` the address before `pc` (46_system.md R268): the one exception. -/
def raiseFatal (s : State) (op : Byte) : State :=
  s.setCpu { s.cpu with mode := .fatal, fatalOp := op, fatalAddr := s.cpu.pc - 1#16, cycles := 0 }

/-- `IE & IF & 0x1F`: the pending enabled sources (10_state.md R34). -/
def pending (s : State) : BitVec 5 := s.bus.ie.extractLsb' 0 5 &&& s.bus.ifReg

/-- The highest-priority source of a nonzero set: its least bit (R287). -/
def firstSource (p : BitVec 5) : Nat :=
  if p.getLsbD 0 then 0 else if p.getLsbD 1 then 1 else if p.getLsbD 2 then 2 else if p.getLsbD 3 then 3 else 4

/-- The entry address of source `i` (R285). -/
def vector (i : Nat) : Word := BitVec.ofNat 16 (0x0040 + 8 * i)

/-- `IF[i] <- 0`. -/
def clearRequest (s : State) (i : Nat) : State :=
  { s with bus := { s.bus with ifReg := s.bus.ifReg &&& ~~~(1#5 <<< i) } }

/-- Taking the interrupt of source `i` (R281): the selection stands whatever the push writes, and the request bit is
cleared after the push. -/
def takeInterrupt (s : State) (i : Nat) : State :=
  let t := clearRequest (push16 s s.cpu.pc) i
  t.setCpu { t.cpu with ime := false, eiPending := false, pc := vector i, cycles := 20 }

/-- `dispatch(pend)` (R281). -/
def dispatch (s : State) : State := takeInterrupt s (firstSource (pending s))

/-- The return from an interrupt, `RETI` (45_control.md R252): `pc` is all it restores. -/
def returnFromInterrupt (s : State) : State :=
  let t := afterPop s
  t.setCpu { t.cpu with pc := popped s, ime := true, eiPending := false, cycles := 16 }

/-! The end of a tick (20_memory.md R90, R91). -/

/-- `aggregate_interrupts()` (R91). -/
def aggregate (s : State) : State :=
  { s with
    bus := { s.bus with ifReg := s.bus.ifReg ||| s.timer.intMask ||| s.ppu.intMask ||| s.joypad.intMask }
    timer := { s.timer with intMask := 0#5 }
    ppu := { s.ppu with intMask := 0#5 }
    joypad := { s.joypad with intMask := 0#5 } }

/-- Timer, PPU and APU driven forward by `t` T-cycles (R90). -/
def devices (t : Nat) (s : State) : State :=
  { s with timer := s.timer.cycle t, ppu := s.ppu.cycle t, apu := s.apu.cycle Config.audio s.sinkPending t }

/-- `bus.cycle(t)` (R90): `bus.cycle(0)` advances no device. -/
def busCycle (t : Nat) (s : State) : State := aggregate (if t = 0 then s else devices t s)

end Sys2Proof.Machine
end

