-- ==== Sys2Proof/Machine/Alu16.lean ====
section
/-! DEFINITION. The meanings of the 16-bit arithmetic instructions (43_alu16.md). `s` is the state after the fetch: `pc` is past the
instruction. Every meaning completes. -/

namespace Sys2Proof.Machine

open Sys2Proof

/-! The operations the family shares. -/

/-- `x[HL] <- x[HL] + x[rp]` with its flags (R210). -/
def addToHL (rp : Pair) (s : State) : State :=
  let r := addWords s.cpu.hl (s.cpu.getPair rp) s.cpu.flags
  s.setCpu (((s.cpu.setPair .hl r.1).setFlags r.2).spend 8)

/-- `x[rp] <- x[rp] + 1` (R211). -/
def incPair (rp : Pair) (s : State) : State := s.setCpu ((s.cpu.setPair rp (s.cpu.getPair rp + 1#16)).spend 8)

/-- `x[rp] <- x[rp] - 1` (R212). -/
def decPair (rp : Pair) (s : State) : State := s.setCpu ((s.cpu.setPair rp (s.cpu.getPair rp - 1#16)).spend 8)

/-- `sp <- sp + sext_16(e)` with its flags (R213). -/
def addSpOffset (e : Byte) (s : State) : State :=
  let r := spOffset s.cpu.sp e
  s.setCpu (((s.cpu.setPair .sp r.1).setFlags r.2).spend 16)

/-! One meaning for each instruction. -/

/-- `INC BC` (R211). -/
def execInc_BC (s : State) : Result := .next (incPair .bc s)

/-- `ADD HL,BC` (R210). -/
def execAdd_HL_BC (s : State) : Result := .next (addToHL .bc s)

/-- `DEC BC` (R212). -/
def execDec_BC (s : State) : Result := .next (decPair .bc s)

/-- `INC DE` (R211). -/
def execInc_DE (s : State) : Result := .next (incPair .de s)

/-- `ADD HL,DE` (R210). -/
def execAdd_HL_DE (s : State) : Result := .next (addToHL .de s)

/-- `DEC DE` (R212). -/
def execDec_DE (s : State) : Result := .next (decPair .de s)

/-- `INC HL` (R211). -/
def execInc_HL (s : State) : Result := .next (incPair .hl s)

/-- `ADD HL,HL` (R210). -/
def execAdd_HL_HL (s : State) : Result := .next (addToHL .hl s)

/-- `DEC HL` (R212). -/
def execDec_HL (s : State) : Result := .next (decPair .hl s)

/-- `INC SP` (R211). -/
def execInc_SP (s : State) : Result := .next (incPair .sp s)

/-- `ADD HL,SP` (R210). -/
def execAdd_HL_SP (s : State) : Result := .next (addToHL .sp s)

/-- `DEC SP` (R212). -/
def execDec_SP (s : State) : Result := .next (decPair .sp s)

/-- `ADD SP,e8` (R213). -/
def execAdd_SP_e8 (e8 : Byte) (s : State) : Result := .next (addSpOffset e8 s)

end Sys2Proof.Machine
end

