-- ==== Sys2Proof/Machine/Alu8.lean ====
section
/-! DEFINITION. The meanings of the 8-bit arithmetic and logic instructions (42_alu8.md). `s` is the state after the fetch: `pc` is past the
instruction. Every meaning completes. -/

namespace Sys2Proof.Machine

open Sys2Proof

/-! The operations the family shares. -/

/-- The accumulator operation `op` with right operand `v` in `n` T-cycles (R190 to R197, R206). -/
def aluOnA (op : AluOp) (v : Byte) (n : Nat) (s : State) : State :=
  let r := alu op s.cpu.a v s.cpu.flags
  s.setCpu (((s.cpu.set8 .a r.1).setFlags r.2).spend n)

/-- `INC` of a register or of the byte at `HL` in `n` T-cycles (R198, R199): one read, one write, the flags of the
computed result. -/
def incOperand (o : Operand8) (n : Nat) (s : State) : State :=
  let r := incByte (getOperand s o) s.cpu.flags
  (putOperand s o r.1).onCpu (fun p => (p.setFlags r.2).spend n)

/-- `DEC` of a register or of the byte at `HL` in `n` T-cycles (R200, R201). -/
def decOperand (o : Operand8) (n : Nat) (s : State) : State :=
  let r := decByte (getOperand s o) s.cpu.flags
  (putOperand s o r.1).onCpu (fun p => (p.setFlags r.2).spend n)

/-- `DAA` (R202). -/
def decimalAdjust (s : State) : State :=
  let r := daaAdjust s.cpu.a s.cpu.flags
  s.setCpu (((s.cpu.set8 .a r.1).setFlags r.2).spend 4)

/-- `CPL` (R203). -/
def complementA (s : State) : State :=
  s.setCpu (((s.cpu.set8 .a (s.cpu.a ^^^ 0xFF#8)).setFlags { s.cpu.flags with n := true, h := true }).spend 4)

/-- `SCF` (R204). -/
def setCarry (s : State) : State :=
  s.setCpu ((s.cpu.setFlags { s.cpu.flags with n := false, h := false, c := true }).spend 4)

/-- `CCF` (R205). -/
def complementCarry (s : State) : State :=
  s.setCpu ((s.cpu.setFlags { s.cpu.flags with n := false, h := false, c := !s.cpu.flags.c }).spend 4)

/-! One meaning for each instruction. -/

/-- `INC B` (R198). -/
def execInc_B (s : State) : Result := .next (incOperand (.reg .b) 4 s)

/-- `DEC B` (R200). -/
def execDec_B (s : State) : Result := .next (decOperand (.reg .b) 4 s)

/-- `INC C` (R198). -/
def execInc_C (s : State) : Result := .next (incOperand (.reg .c) 4 s)

/-- `DEC C` (R200). -/
def execDec_C (s : State) : Result := .next (decOperand (.reg .c) 4 s)

/-- `INC D` (R198). -/
def execInc_D (s : State) : Result := .next (incOperand (.reg .d) 4 s)

/-- `DEC D` (R200). -/
def execDec_D (s : State) : Result := .next (decOperand (.reg .d) 4 s)

/-- `INC E` (R198). -/
def execInc_E (s : State) : Result := .next (incOperand (.reg .e) 4 s)

/-- `DEC E` (R200). -/
def execDec_E (s : State) : Result := .next (decOperand (.reg .e) 4 s)

/-- `INC H` (R198). -/
def execInc_H (s : State) : Result := .next (incOperand (.reg .h) 4 s)

/-- `DEC H` (R200). -/
def execDec_H (s : State) : Result := .next (decOperand (.reg .h) 4 s)

/-- `DAA` (R202). -/
def execDaa (s : State) : Result := .next (decimalAdjust s)

/-- `INC L` (R198). -/
def execInc_L (s : State) : Result := .next (incOperand (.reg .l) 4 s)

/-- `DEC L` (R200). -/
def execDec_L (s : State) : Result := .next (decOperand (.reg .l) 4 s)

/-- `CPL` (R203). -/
def execCpl (s : State) : Result := .next (complementA s)

/-- `INC (HL)` (R199). -/
def execInc_atHL (s : State) : Result := .next (incOperand .atHL 12 s)

/-- `DEC (HL)` (R201). -/
def execDec_atHL (s : State) : Result := .next (decOperand .atHL 12 s)

/-- `SCF` (R204). -/
def execScf (s : State) : Result := .next (setCarry s)

/-- `INC A` (R198). -/
def execInc_A (s : State) : Result := .next (incOperand (.reg .a) 4 s)

/-- `DEC A` (R200). -/
def execDec_A (s : State) : Result := .next (decOperand (.reg .a) 4 s)

/-- `CCF` (R205). -/
def execCcf (s : State) : Result := .next (complementCarry s)

/-- `ADD A,B` (R190). -/
def execAdd_A_B (s : State) : Result := .next (aluOnA .add (s.cpu.get8 .b) 4 s)

/-- `ADD A,C` (R190). -/
def execAdd_A_C (s : State) : Result := .next (aluOnA .add (s.cpu.get8 .c) 4 s)

/-- `ADD A,D` (R190). -/
def execAdd_A_D (s : State) : Result := .next (aluOnA .add (s.cpu.get8 .d) 4 s)

/-- `ADD A,E` (R190). -/
def execAdd_A_E (s : State) : Result := .next (aluOnA .add (s.cpu.get8 .e) 4 s)

/-- `ADD A,H` (R190). -/
def execAdd_A_H (s : State) : Result := .next (aluOnA .add (s.cpu.get8 .h) 4 s)

/-- `ADD A,L` (R190). -/
def execAdd_A_L (s : State) : Result := .next (aluOnA .add (s.cpu.get8 .l) 4 s)

/-- `ADD A,(HL)` (R190). -/
def execAdd_A_atHL (s : State) : Result := .next (aluOnA .add (read8 s s.cpu.hl) 8 s)

/-- `ADD A,A` (R190). -/
def execAdd_A_A (s : State) : Result := .next (aluOnA .add (s.cpu.get8 .a) 4 s)

/-- `ADC A,B` (R191). -/
def execAdc_A_B (s : State) : Result := .next (aluOnA .adc (s.cpu.get8 .b) 4 s)

/-- `ADC A,C` (R191). -/
def execAdc_A_C (s : State) : Result := .next (aluOnA .adc (s.cpu.get8 .c) 4 s)

/-- `ADC A,D` (R191). -/
def execAdc_A_D (s : State) : Result := .next (aluOnA .adc (s.cpu.get8 .d) 4 s)

/-- `ADC A,E` (R191). -/
def execAdc_A_E (s : State) : Result := .next (aluOnA .adc (s.cpu.get8 .e) 4 s)

/-- `ADC A,H` (R191). -/
def execAdc_A_H (s : State) : Result := .next (aluOnA .adc (s.cpu.get8 .h) 4 s)

/-- `ADC A,L` (R191). -/
def execAdc_A_L (s : State) : Result := .next (aluOnA .adc (s.cpu.get8 .l) 4 s)

/-- `ADC A,(HL)` (R191). -/
def execAdc_A_atHL (s : State) : Result := .next (aluOnA .adc (read8 s s.cpu.hl) 8 s)

/-- `ADC A,A` (R191). -/
def execAdc_A_A (s : State) : Result := .next (aluOnA .adc (s.cpu.get8 .a) 4 s)

/-- `SUB B` (R192). -/
def execSub_B (s : State) : Result := .next (aluOnA .sub (s.cpu.get8 .b) 4 s)

/-- `SUB C` (R192). -/
def execSub_C (s : State) : Result := .next (aluOnA .sub (s.cpu.get8 .c) 4 s)

/-- `SUB D` (R192). -/
def execSub_D (s : State) : Result := .next (aluOnA .sub (s.cpu.get8 .d) 4 s)

/-- `SUB E` (R192). -/
def execSub_E (s : State) : Result := .next (aluOnA .sub (s.cpu.get8 .e) 4 s)

/-- `SUB H` (R192). -/
def execSub_H (s : State) : Result := .next (aluOnA .sub (s.cpu.get8 .h) 4 s)

/-- `SUB L` (R192). -/
def execSub_L (s : State) : Result := .next (aluOnA .sub (s.cpu.get8 .l) 4 s)

/-- `SUB (HL)` (R192). -/
def execSub_atHL (s : State) : Result := .next (aluOnA .sub (read8 s s.cpu.hl) 8 s)

/-- `SUB A` (R192). -/
def execSub_A (s : State) : Result := .next (aluOnA .sub (s.cpu.get8 .a) 4 s)

/-- `SBC A,B` (R193). -/
def execSbc_A_B (s : State) : Result := .next (aluOnA .sbc (s.cpu.get8 .b) 4 s)

/-- `SBC A,C` (R193). -/
def execSbc_A_C (s : State) : Result := .next (aluOnA .sbc (s.cpu.get8 .c) 4 s)

/-- `SBC A,D` (R193). -/
def execSbc_A_D (s : State) : Result := .next (aluOnA .sbc (s.cpu.get8 .d) 4 s)

/-- `SBC A,E` (R193). -/
def execSbc_A_E (s : State) : Result := .next (aluOnA .sbc (s.cpu.get8 .e) 4 s)

/-- `SBC A,H` (R193). -/
def execSbc_A_H (s : State) : Result := .next (aluOnA .sbc (s.cpu.get8 .h) 4 s)

/-- `SBC A,L` (R193). -/
def execSbc_A_L (s : State) : Result := .next (aluOnA .sbc (s.cpu.get8 .l) 4 s)

/-- `SBC A,(HL)` (R193). -/
def execSbc_A_atHL (s : State) : Result := .next (aluOnA .sbc (read8 s s.cpu.hl) 8 s)

/-- `SBC A,A` (R193). -/
def execSbc_A_A (s : State) : Result := .next (aluOnA .sbc (s.cpu.get8 .a) 4 s)

/-- `AND B` (R194). -/
def execAnd_B (s : State) : Result := .next (aluOnA .and (s.cpu.get8 .b) 4 s)

/-- `AND C` (R194). -/
def execAnd_C (s : State) : Result := .next (aluOnA .and (s.cpu.get8 .c) 4 s)

/-- `AND D` (R194). -/
def execAnd_D (s : State) : Result := .next (aluOnA .and (s.cpu.get8 .d) 4 s)

/-- `AND E` (R194). -/
def execAnd_E (s : State) : Result := .next (aluOnA .and (s.cpu.get8 .e) 4 s)

/-- `AND H` (R194). -/
def execAnd_H (s : State) : Result := .next (aluOnA .and (s.cpu.get8 .h) 4 s)

/-- `AND L` (R194). -/
def execAnd_L (s : State) : Result := .next (aluOnA .and (s.cpu.get8 .l) 4 s)

/-- `AND (HL)` (R194). -/
def execAnd_atHL (s : State) : Result := .next (aluOnA .and (read8 s s.cpu.hl) 8 s)

/-- `AND A` (R194). -/
def execAnd_A (s : State) : Result := .next (aluOnA .and (s.cpu.get8 .a) 4 s)

/-- `XOR B` (R195). -/
def execXor_B (s : State) : Result := .next (aluOnA .xor (s.cpu.get8 .b) 4 s)

/-- `XOR C` (R195). -/
def execXor_C (s : State) : Result := .next (aluOnA .xor (s.cpu.get8 .c) 4 s)

/-- `XOR D` (R195). -/
def execXor_D (s : State) : Result := .next (aluOnA .xor (s.cpu.get8 .d) 4 s)

/-- `XOR E` (R195). -/
def execXor_E (s : State) : Result := .next (aluOnA .xor (s.cpu.get8 .e) 4 s)

/-- `XOR H` (R195). -/
def execXor_H (s : State) : Result := .next (aluOnA .xor (s.cpu.get8 .h) 4 s)

/-- `XOR L` (R195). -/
def execXor_L (s : State) : Result := .next (aluOnA .xor (s.cpu.get8 .l) 4 s)

/-- `XOR (HL)` (R195). -/
def execXor_atHL (s : State) : Result := .next (aluOnA .xor (read8 s s.cpu.hl) 8 s)

/-- `XOR A` (R195). -/
def execXor_A (s : State) : Result := .next (aluOnA .xor (s.cpu.get8 .a) 4 s)

/-- `OR B` (R196). -/
def execOr_B (s : State) : Result := .next (aluOnA .or (s.cpu.get8 .b) 4 s)

/-- `OR C` (R196). -/
def execOr_C (s : State) : Result := .next (aluOnA .or (s.cpu.get8 .c) 4 s)

/-- `OR D` (R196). -/
def execOr_D (s : State) : Result := .next (aluOnA .or (s.cpu.get8 .d) 4 s)

/-- `OR E` (R196). -/
def execOr_E (s : State) : Result := .next (aluOnA .or (s.cpu.get8 .e) 4 s)

/-- `OR H` (R196). -/
def execOr_H (s : State) : Result := .next (aluOnA .or (s.cpu.get8 .h) 4 s)

/-- `OR L` (R196). -/
def execOr_L (s : State) : Result := .next (aluOnA .or (s.cpu.get8 .l) 4 s)

/-- `OR (HL)` (R196). -/
def execOr_atHL (s : State) : Result := .next (aluOnA .or (read8 s s.cpu.hl) 8 s)

/-- `OR A` (R196). -/
def execOr_A (s : State) : Result := .next (aluOnA .or (s.cpu.get8 .a) 4 s)

/-- `CP B` (R197). -/
def execCp_B (s : State) : Result := .next (aluOnA .cp (s.cpu.get8 .b) 4 s)

/-- `CP C` (R197). -/
def execCp_C (s : State) : Result := .next (aluOnA .cp (s.cpu.get8 .c) 4 s)

/-- `CP D` (R197). -/
def execCp_D (s : State) : Result := .next (aluOnA .cp (s.cpu.get8 .d) 4 s)

/-- `CP E` (R197). -/
def execCp_E (s : State) : Result := .next (aluOnA .cp (s.cpu.get8 .e) 4 s)

/-- `CP H` (R197). -/
def execCp_H (s : State) : Result := .next (aluOnA .cp (s.cpu.get8 .h) 4 s)

/-- `CP L` (R197). -/
def execCp_L (s : State) : Result := .next (aluOnA .cp (s.cpu.get8 .l) 4 s)

/-- `CP (HL)` (R197). -/
def execCp_atHL (s : State) : Result := .next (aluOnA .cp (read8 s s.cpu.hl) 8 s)

/-- `CP A` (R197). -/
def execCp_A (s : State) : Result := .next (aluOnA .cp (s.cpu.get8 .a) 4 s)

/-- `ADD A,d8` (R190). -/
def execAdd_A_d8 (d8 : Byte) (s : State) : Result := .next (aluOnA .add d8 8 s)

/-- `ADC A,d8` (R191). -/
def execAdc_A_d8 (d8 : Byte) (s : State) : Result := .next (aluOnA .adc d8 8 s)

/-- `SUB d8` (R192). -/
def execSub_d8 (d8 : Byte) (s : State) : Result := .next (aluOnA .sub d8 8 s)

/-- `SBC A,d8` (R193). -/
def execSbc_A_d8 (d8 : Byte) (s : State) : Result := .next (aluOnA .sbc d8 8 s)

/-- `AND d8` (R194). -/
def execAnd_d8 (d8 : Byte) (s : State) : Result := .next (aluOnA .and d8 8 s)

/-- `XOR d8` (R195). -/
def execXor_d8 (d8 : Byte) (s : State) : Result := .next (aluOnA .xor d8 8 s)

/-- `OR d8` (R196). -/
def execOr_d8 (d8 : Byte) (s : State) : Result := .next (aluOnA .or d8 8 s)

/-- `CP d8` (R197). -/
def execCp_d8 (d8 : Byte) (s : State) : Result := .next (aluOnA .cp d8 8 s)

end Sys2Proof.Machine
end

