-- ==== Sys2Proof/Machine/Control.lean ====
section
/-! DEFINITION. The meanings of the control-transfer instructions (45_control.md). `s` is the state after the fetch: `pc` is past the
instruction. Every meaning completes. -/

namespace Sys2Proof.Machine

open Sys2Proof

/-! The operations the family shares. -/

/-- `pc + sext_16(e)`, `pc` being past the operand (R243). -/
def relative (s : State) (e : Byte) : Word := s.cpu.pc + sext16 e

/-- `pc <- target` in `n` T-cycles (R240, R242, R243). -/
def jump (target : Word) (n : Nat) (s : State) : State := (s.setPc target).spend n

/-- A conditional jump: `taken` T-cycles or `untaken` (R241, R244). -/
def jumpIf (cc : Cond) (target : Word) (taken untaken : Nat) (s : State) : State :=
  if s.cpu.flags.meet cc then jump target taken s else s.spend untaken

/-- `Push16(pc)`, then `pc <- target` (R245, R253). -/
def call (target : Word) (n : Nat) (s : State) : State := ((push16 s s.cpu.pc).setPc target).spend n

/-- `CALL cc,a16` (R246). -/
def callIf (cc : Cond) (target : Word) (s : State) : State :=
  if s.cpu.flags.meet cc then call target 24 s else s.spend 12

/-- `pc <- Pop16()` (R247). -/
def ret (n : Nat) (s : State) : State := ((afterPop s).setPc (popped s)).spend n

/-- `RET cc` (R248). -/
def retIf (cc : Cond) (s : State) : State := if s.cpu.flags.meet cc then ret 20 s else s.spend 8

/-! One meaning for each instruction. -/

/-- `JR e8` (R243). -/
def execJr_e8 (e8 : Byte) (s : State) : Result := .next (jump (relative s e8) 12 s)

/-- `JR NZ,e8` (R244). -/
def execJr_NZ_e8 (e8 : Byte) (s : State) : Result := .next (jumpIf .nz (relative s e8) 12 8 s)

/-- `JR Z,e8` (R244). -/
def execJr_Z_e8 (e8 : Byte) (s : State) : Result := .next (jumpIf .z (relative s e8) 12 8 s)

/-- `JR NC,e8` (R244). -/
def execJr_NC_e8 (e8 : Byte) (s : State) : Result := .next (jumpIf .nc (relative s e8) 12 8 s)

/-- `JR C,e8` (R244). -/
def execJr_C_e8 (e8 : Byte) (s : State) : Result := .next (jumpIf .c (relative s e8) 12 8 s)

/-- `RET NZ` (R248). -/
def execRet_NZ (s : State) : Result := .next (retIf .nz s)

/-- `JP NZ,a16` (R241). -/
def execJp_NZ_a16 (a16 : Word) (s : State) : Result := .next (jumpIf .nz a16 16 12 s)

/-- `JP a16` (R240). -/
def execJp_a16 (a16 : Word) (s : State) : Result := .next (jump a16 16 s)

/-- `CALL NZ,a16` (R246). -/
def execCall_NZ_a16 (a16 : Word) (s : State) : Result := .next (callIf .nz a16 s)

/-- `RST 0x00` (R253). -/
def execRst_00 (s : State) : Result := .next (call 0x0000#16 16 s)

/-- `RET Z` (R248). -/
def execRet_Z (s : State) : Result := .next (retIf .z s)

/-- `RET` (R247). -/
def execRet (s : State) : Result := .next (ret 16 s)

/-- `JP Z,a16` (R241). -/
def execJp_Z_a16 (a16 : Word) (s : State) : Result := .next (jumpIf .z a16 16 12 s)

/-- `CALL Z,a16` (R246). -/
def execCall_Z_a16 (a16 : Word) (s : State) : Result := .next (callIf .z a16 s)

/-- `CALL a16` (R245). -/
def execCall_a16 (a16 : Word) (s : State) : Result := .next (call a16 24 s)

/-- `RST 0x08` (R253). -/
def execRst_08 (s : State) : Result := .next (call 0x0008#16 16 s)

/-- `RET NC` (R248). -/
def execRet_NC (s : State) : Result := .next (retIf .nc s)

/-- `JP NC,a16` (R241). -/
def execJp_NC_a16 (a16 : Word) (s : State) : Result := .next (jumpIf .nc a16 16 12 s)

/-- `CALL NC,a16` (R246). -/
def execCall_NC_a16 (a16 : Word) (s : State) : Result := .next (callIf .nc a16 s)

/-- `RST 0x10` (R253). -/
def execRst_10 (s : State) : Result := .next (call 0x0010#16 16 s)

/-- `RET C` (R248). -/
def execRet_C (s : State) : Result := .next (retIf .c s)

/-- `RETI` (R252). -/
def execReti (s : State) : Result := .next (returnFromInterrupt s)

/-- `JP C,a16` (R241). -/
def execJp_C_a16 (a16 : Word) (s : State) : Result := .next (jumpIf .c a16 16 12 s)

/-- `CALL C,a16` (R246). -/
def execCall_C_a16 (a16 : Word) (s : State) : Result := .next (callIf .c a16 s)

/-- `RST 0x18` (R253). -/
def execRst_18 (s : State) : Result := .next (call 0x0018#16 16 s)

/-- `RST 0x20` (R253). -/
def execRst_20 (s : State) : Result := .next (call 0x0020#16 16 s)

/-- `JP HL` (R242). -/
def execJp_HL (s : State) : Result := .next (jump s.cpu.hl 4 s)

/-- `RST 0x28` (R253). -/
def execRst_28 (s : State) : Result := .next (call 0x0028#16 16 s)

/-- `RST 0x30` (R253). -/
def execRst_30 (s : State) : Result := .next (call 0x0030#16 16 s)

/-- `RST 0x38` (R253). -/
def execRst_38 (s : State) : Result := .next (call 0x0038#16 16 s)

end Sys2Proof.Machine
end

