-- ==== Sys2Proof/Machine/Load16.lean ====
section
/-! DEFINITION. The meanings of the 16-bit load and stack instructions (41_load16.md). `s` is the state after the fetch: `pc` is past the
instruction. Every meaning completes. -/

namespace Sys2Proof.Machine

open Sys2Proof

/-! The operations the family shares. -/

/-- `x[rp] <- v` (R180). -/
def loadPairImm (rp : Pair) (v : Word) (s : State) : State := s.setCpu ((s.cpu.setPair rp v).spend 12)

/-- `MemWrite(a, 2, sp)` (R181). -/
def storeSp (a : Word) (s : State) : State := (write16 s a s.cpu.sp).spend 20

/-- `sp <- x[HL]` (R182). -/
def copyHLToSp (s : State) : State := s.setCpu ((s.cpu.setPair .sp s.cpu.hl).spend 8)

/-- `x[HL] <- sp + sext_16(e)` with its flags (R183). -/
def loadHLOffset (e : Byte) (s : State) : State :=
  let r := spOffset s.cpu.sp e
  s.setCpu (((s.cpu.setPair .hl r.1).setFlags r.2).spend 12)

/-- `Push16(x[rp])` (R184). -/
def pushPair (rp : Pair) (s : State) : State := (push16 s (s.cpu.getPair rp)).spend 16

/-- `x[rp] <- Pop16()` (R185; R186 for `AF`, whose low nibble is dropped by the register write). -/
def popPair (rp : Pair) (s : State) : State := (afterPop s).onCpu (fun p => (p.setPair rp (popped s)).spend 12)

/-! One meaning for each instruction. -/

/-- `LD BC,d16` (R180). -/
def execLd_BC_d16 (d16 : Word) (s : State) : Result := .next (loadPairImm .bc d16 s)

/-- `LD (a16),SP` (R181). -/
def execLd_atA16_SP (a16 : Word) (s : State) : Result := .next (storeSp a16 s)

/-- `LD DE,d16` (R180). -/
def execLd_DE_d16 (d16 : Word) (s : State) : Result := .next (loadPairImm .de d16 s)

/-- `LD HL,d16` (R180). -/
def execLd_HL_d16 (d16 : Word) (s : State) : Result := .next (loadPairImm .hl d16 s)

/-- `LD SP,d16` (R180). -/
def execLd_SP_d16 (d16 : Word) (s : State) : Result := .next (loadPairImm .sp d16 s)

/-- `POP BC` (R185). -/
def execPop_BC (s : State) : Result := .next (popPair .bc s)

/-- `PUSH BC` (R184). -/
def execPush_BC (s : State) : Result := .next (pushPair .bc s)

/-- `POP DE` (R185). -/
def execPop_DE (s : State) : Result := .next (popPair .de s)

/-- `PUSH DE` (R184). -/
def execPush_DE (s : State) : Result := .next (pushPair .de s)

/-- `POP HL` (R185). -/
def execPop_HL (s : State) : Result := .next (popPair .hl s)

/-- `PUSH HL` (R184). -/
def execPush_HL (s : State) : Result := .next (pushPair .hl s)

/-- `POP AF` (R186). -/
def execPop_AF (s : State) : Result := .next (popPair .af s)

/-- `PUSH AF` (R184). -/
def execPush_AF (s : State) : Result := .next (pushPair .af s)

/-- `LD HL,SP+e8` (R183). -/
def execLd_HL_SPe8 (e8 : Byte) (s : State) : Result := .next (loadHLOffset e8 s)

/-- `LD SP,HL` (R182). -/
def execLd_SP_HL (s : State) : Result := .next (copyHLToSp s)

end Sys2Proof.Machine
end

