-- ==== Sys2Proof/Machine/Load8.lean ====
section
/-! DEFINITION. The meanings of the 8-bit load instructions (40_load8.md). `s` is the state after the fetch: `pc` is past the
instruction. Every meaning completes. -/

namespace Sys2Proof.Machine

open Sys2Proof

/-! The operations the family shares. -/

/-- `x[dst] <- x[src]` (R160). -/
def loadRegReg (dst src : Reg8) (s : State) : State := s.setCpu ((s.cpu.set8 dst (s.cpu.get8 src)).spend 4)

/-- `x[dst] <- v` (R161). -/
def loadRegImm (dst : Reg8) (v : Byte) (s : State) : State := s.setCpu ((s.cpu.set8 dst v).spend 8)

/-- `x[dst] <- MemRead(addr, 1)` in `n` T-cycles (R162, R165, R166, R169, R172, R174). -/
def loadRegAt (dst : Reg8) (addr : Word) (n : Nat) (s : State) : State :=
  s.setCpu ((s.cpu.set8 dst (read8 s addr)).spend n)

/-- `MemWrite(addr, 1, v)` in `n` T-cycles (R163, R164, R167, R168, R170, R173, R175). -/
def storeAt (addr : Word) (v : Byte) (n : Nat) (s : State) : State := (write8 s addr v).spend n

/-- `MemWrite(x[HL], 1, x[A])`, then `HL` moved by `d` (R176, R177). -/
def storeAThenMoveHL (d : Word) (s : State) : State :=
  (write8 s s.cpu.hl s.cpu.a).onCpu (fun p => (p.setPair .hl (p.hl + d)).spend 8)

/-- `x[A] <- MemRead(x[HL], 1)`, then `HL` moved by `d` (R178, R179). -/
def loadAThenMoveHL (d : Word) (s : State) : State :=
  s.setCpu (((s.cpu.set8 .a (read8 s s.cpu.hl)).setPair .hl (s.cpu.hl + d)).spend 8)

/-! One meaning for each instruction. -/

/-- `LD (BC),A` (R167). -/
def execLd_atBC_A (s : State) : Result := .next (storeAt (s.cpu.getPair .bc) s.cpu.a 8 s)

/-- `LD B,d8` (R161). -/
def execLd_B_d8 (d8 : Byte) (s : State) : Result := .next (loadRegImm .b d8 s)

/-- `LD A,(BC)` (R165). -/
def execLd_A_atBC (s : State) : Result := .next (loadRegAt .a (s.cpu.getPair .bc) 8 s)

/-- `LD C,d8` (R161). -/
def execLd_C_d8 (d8 : Byte) (s : State) : Result := .next (loadRegImm .c d8 s)

/-- `LD (DE),A` (R168). -/
def execLd_atDE_A (s : State) : Result := .next (storeAt (s.cpu.getPair .de) s.cpu.a 8 s)

/-- `LD D,d8` (R161). -/
def execLd_D_d8 (d8 : Byte) (s : State) : Result := .next (loadRegImm .d d8 s)

/-- `LD A,(DE)` (R166). -/
def execLd_A_atDE (s : State) : Result := .next (loadRegAt .a (s.cpu.getPair .de) 8 s)

/-- `LD E,d8` (R161). -/
def execLd_E_d8 (d8 : Byte) (s : State) : Result := .next (loadRegImm .e d8 s)

/-- `LD (HL+),A` (R176). -/
def execLd_atHLI_A (s : State) : Result := .next (storeAThenMoveHL 1#16 s)

/-- `LD H,d8` (R161). -/
def execLd_H_d8 (d8 : Byte) (s : State) : Result := .next (loadRegImm .h d8 s)

/-- `LD A,(HL+)` (R178). -/
def execLd_A_atHLI (s : State) : Result := .next (loadAThenMoveHL 1#16 s)

/-- `LD L,d8` (R161). -/
def execLd_L_d8 (d8 : Byte) (s : State) : Result := .next (loadRegImm .l d8 s)

/-- `LD (HL-),A` (R177). -/
def execLd_atHLD_A (s : State) : Result := .next (storeAThenMoveHL (-1#16) s)

/-- `LD (HL),d8` (R164). -/
def execLd_atHL_d8 (d8 : Byte) (s : State) : Result := .next (storeAt s.cpu.hl d8 12 s)

/-- `LD A,(HL-)` (R179). -/
def execLd_A_atHLD (s : State) : Result := .next (loadAThenMoveHL (-1#16) s)

/-- `LD A,d8` (R161). -/
def execLd_A_d8 (d8 : Byte) (s : State) : Result := .next (loadRegImm .a d8 s)

/-- `LD B,B` (R160). -/
def execLd_B_B (s : State) : Result := .next (loadRegReg .b .b s)

/-- `LD B,C` (R160). -/
def execLd_B_C (s : State) : Result := .next (loadRegReg .b .c s)

/-- `LD B,D` (R160). -/
def execLd_B_D (s : State) : Result := .next (loadRegReg .b .d s)

/-- `LD B,E` (R160). -/
def execLd_B_E (s : State) : Result := .next (loadRegReg .b .e s)

/-- `LD B,H` (R160). -/
def execLd_B_H (s : State) : Result := .next (loadRegReg .b .h s)

/-- `LD B,L` (R160). -/
def execLd_B_L (s : State) : Result := .next (loadRegReg .b .l s)

/-- `LD B,(HL)` (R162). -/
def execLd_B_atHL (s : State) : Result := .next (loadRegAt .b s.cpu.hl 8 s)

/-- `LD B,A` (R160). -/
def execLd_B_A (s : State) : Result := .next (loadRegReg .b .a s)

/-- `LD C,B` (R160). -/
def execLd_C_B (s : State) : Result := .next (loadRegReg .c .b s)

/-- `LD C,C` (R160). -/
def execLd_C_C (s : State) : Result := .next (loadRegReg .c .c s)

/-- `LD C,D` (R160). -/
def execLd_C_D (s : State) : Result := .next (loadRegReg .c .d s)

/-- `LD C,E` (R160). -/
def execLd_C_E (s : State) : Result := .next (loadRegReg .c .e s)

/-- `LD C,H` (R160). -/
def execLd_C_H (s : State) : Result := .next (loadRegReg .c .h s)

/-- `LD C,L` (R160). -/
def execLd_C_L (s : State) : Result := .next (loadRegReg .c .l s)

/-- `LD C,(HL)` (R162). -/
def execLd_C_atHL (s : State) : Result := .next (loadRegAt .c s.cpu.hl 8 s)

/-- `LD C,A` (R160). -/
def execLd_C_A (s : State) : Result := .next (loadRegReg .c .a s)

/-- `LD D,B` (R160). -/
def execLd_D_B (s : State) : Result := .next (loadRegReg .d .b s)

/-- `LD D,C` (R160). -/
def execLd_D_C (s : State) : Result := .next (loadRegReg .d .c s)

/-- `LD D,D` (R160). -/
def execLd_D_D (s : State) : Result := .next (loadRegReg .d .d s)

/-- `LD D,E` (R160). -/
def execLd_D_E (s : State) : Result := .next (loadRegReg .d .e s)

/-- `LD D,H` (R160). -/
def execLd_D_H (s : State) : Result := .next (loadRegReg .d .h s)

/-- `LD D,L` (R160). -/
def execLd_D_L (s : State) : Result := .next (loadRegReg .d .l s)

/-- `LD D,(HL)` (R162). -/
def execLd_D_atHL (s : State) : Result := .next (loadRegAt .d s.cpu.hl 8 s)

/-- `LD D,A` (R160). -/
def execLd_D_A (s : State) : Result := .next (loadRegReg .d .a s)

/-- `LD E,B` (R160). -/
def execLd_E_B (s : State) : Result := .next (loadRegReg .e .b s)

/-- `LD E,C` (R160). -/
def execLd_E_C (s : State) : Result := .next (loadRegReg .e .c s)

/-- `LD E,D` (R160). -/
def execLd_E_D (s : State) : Result := .next (loadRegReg .e .d s)

/-- `LD E,E` (R160). -/
def execLd_E_E (s : State) : Result := .next (loadRegReg .e .e s)

/-- `LD E,H` (R160). -/
def execLd_E_H (s : State) : Result := .next (loadRegReg .e .h s)

/-- `LD E,L` (R160). -/
def execLd_E_L (s : State) : Result := .next (loadRegReg .e .l s)

/-- `LD E,(HL)` (R162). -/
def execLd_E_atHL (s : State) : Result := .next (loadRegAt .e s.cpu.hl 8 s)

/-- `LD E,A` (R160). -/
def execLd_E_A (s : State) : Result := .next (loadRegReg .e .a s)

/-- `LD H,B` (R160). -/
def execLd_H_B (s : State) : Result := .next (loadRegReg .h .b s)

/-- `LD H,C` (R160). -/
def execLd_H_C (s : State) : Result := .next (loadRegReg .h .c s)

/-- `LD H,D` (R160). -/
def execLd_H_D (s : State) : Result := .next (loadRegReg .h .d s)

/-- `LD H,E` (R160). -/
def execLd_H_E (s : State) : Result := .next (loadRegReg .h .e s)

/-- `LD H,H` (R160). -/
def execLd_H_H (s : State) : Result := .next (loadRegReg .h .h s)

/-- `LD H,L` (R160). -/
def execLd_H_L (s : State) : Result := .next (loadRegReg .h .l s)

/-- `LD H,(HL)` (R162). -/
def execLd_H_atHL (s : State) : Result := .next (loadRegAt .h s.cpu.hl 8 s)

/-- `LD H,A` (R160). -/
def execLd_H_A (s : State) : Result := .next (loadRegReg .h .a s)

/-- `LD L,B` (R160). -/
def execLd_L_B (s : State) : Result := .next (loadRegReg .l .b s)

/-- `LD L,C` (R160). -/
def execLd_L_C (s : State) : Result := .next (loadRegReg .l .c s)

/-- `LD L,D` (R160). -/
def execLd_L_D (s : State) : Result := .next (loadRegReg .l .d s)

/-- `LD L,E` (R160). -/
def execLd_L_E (s : State) : Result := .next (loadRegReg .l .e s)

/-- `LD L,H` (R160). -/
def execLd_L_H (s : State) : Result := .next (loadRegReg .l .h s)

/-- `LD L,L` (R160). -/
def execLd_L_L (s : State) : Result := .next (loadRegReg .l .l s)

/-- `LD L,(HL)` (R162). -/
def execLd_L_atHL (s : State) : Result := .next (loadRegAt .l s.cpu.hl 8 s)

/-- `LD L,A` (R160). -/
def execLd_L_A (s : State) : Result := .next (loadRegReg .l .a s)

/-- `LD (HL),B` (R163). -/
def execLd_atHL_B (s : State) : Result := .next (storeAt s.cpu.hl (s.cpu.get8 .b) 8 s)

/-- `LD (HL),C` (R163). -/
def execLd_atHL_C (s : State) : Result := .next (storeAt s.cpu.hl (s.cpu.get8 .c) 8 s)

/-- `LD (HL),D` (R163). -/
def execLd_atHL_D (s : State) : Result := .next (storeAt s.cpu.hl (s.cpu.get8 .d) 8 s)

/-- `LD (HL),E` (R163). -/
def execLd_atHL_E (s : State) : Result := .next (storeAt s.cpu.hl (s.cpu.get8 .e) 8 s)

/-- `LD (HL),H` (R163). -/
def execLd_atHL_H (s : State) : Result := .next (storeAt s.cpu.hl (s.cpu.get8 .h) 8 s)

/-- `LD (HL),L` (R163). -/
def execLd_atHL_L (s : State) : Result := .next (storeAt s.cpu.hl (s.cpu.get8 .l) 8 s)

/-- `LD (HL),A` (R163). -/
def execLd_atHL_A (s : State) : Result := .next (storeAt s.cpu.hl (s.cpu.get8 .a) 8 s)

/-- `LD A,B` (R160). -/
def execLd_A_B (s : State) : Result := .next (loadRegReg .a .b s)

/-- `LD A,C` (R160). -/
def execLd_A_C (s : State) : Result := .next (loadRegReg .a .c s)

/-- `LD A,D` (R160). -/
def execLd_A_D (s : State) : Result := .next (loadRegReg .a .d s)

/-- `LD A,E` (R160). -/
def execLd_A_E (s : State) : Result := .next (loadRegReg .a .e s)

/-- `LD A,H` (R160). -/
def execLd_A_H (s : State) : Result := .next (loadRegReg .a .h s)

/-- `LD A,L` (R160). -/
def execLd_A_L (s : State) : Result := .next (loadRegReg .a .l s)

/-- `LD A,(HL)` (R162). -/
def execLd_A_atHL (s : State) : Result := .next (loadRegAt .a s.cpu.hl 8 s)

/-- `LD A,A` (R160). -/
def execLd_A_A (s : State) : Result := .next (loadRegReg .a .a s)

/-- `LDH (a8),A` (R173). -/
def execLdh_atA8_A (a8 : Byte) (s : State) : Result := .next (storeAt (highPage a8) s.cpu.a 12 s)

/-- `LD (C),A` (R175). -/
def execLd_atC_A (s : State) : Result := .next (storeAt (highPage s.cpu.c) s.cpu.a 8 s)

/-- `LD (a16),A` (R170). -/
def execLd_atA16_A (a16 : Word) (s : State) : Result := .next (storeAt a16 s.cpu.a 16 s)

/-- `LDH A,(a8)` (R172). -/
def execLdh_A_atA8 (a8 : Byte) (s : State) : Result := .next (loadRegAt .a (highPage a8) 12 s)

/-- `LD A,(C)` (R174). -/
def execLd_A_atC (s : State) : Result := .next (loadRegAt .a (highPage s.cpu.c) 8 s)

/-- `LD A,(a16)` (R169). -/
def execLd_A_atA16 (a16 : Word) (s : State) : Result := .next (loadRegAt .a a16 16 s)

end Sys2Proof.Machine
end

