-- ==== Sys2Proof/Machine/RotateBit.lean ====
section
/-! DEFINITION. The meanings of the rotate, shift and bit instructions (44_rotate_bit.md). `s` is the state after the fetch: `pc` is past the
instruction. Every meaning completes. -/

namespace Sys2Proof.Machine

open Sys2Proof

/-! The operations the family shares. -/

/-- The T-cycles of an extended instruction that writes its operand (R235). -/
def operandCost (o : Operand8) : Nat :=
  match o with
  | .reg _ => 8
  | .atHL => 16

/-- The T-cycles of `BIT` (R235). -/
def testCost (o : Operand8) : Nat :=
  match o with
  | .reg _ => 8
  | .atHL => 12

/-- `RLCA`, `RRCA`, `RLA`, `RRA` (R220 to R223). -/
def rotateA (op : RotOp) (s : State) : State :=
  let r := rotate op s.cpu.a s.cpu.flags.c
  s.setCpu (((s.cpu.set8 .a r.1).setFlags (rotateAFlags r.2)).spend 4)

/-- A rotate, a shift or `SWAP` of the extended table (R224 to R231): one read, then one write. -/
def rotateOperand (op : RotOp) (o : Operand8) (s : State) : State :=
  let r := rotate op (getOperand s o) s.cpu.flags.c
  (putOperand s o r.1).onCpu (fun p => (p.setFlags (rotateFlags r.1 r.2)).spend (operandCost o))

/-- `BIT b,t` (R232): nothing is written back. -/
def testBit (b : Nat) (o : Operand8) (s : State) : State :=
  s.setCpu ((s.cpu.setFlags (bitFlags b (getOperand s o) s.cpu.flags)).spend (testCost o))

/-- `RES b,t` (R233). -/
def clearBit (b : Nat) (o : Operand8) (s : State) : State :=
  (putOperand s o (getOperand s o &&& ~~~bitMask b)).spend (operandCost o)

/-- `SET b,t` (R234). -/
def setBit (b : Nat) (o : Operand8) (s : State) : State :=
  (putOperand s o (getOperand s o ||| bitMask b)).spend (operandCost o)

/-- `extended[op2]` (30_encoding.md R135). -/
def extendedOp (op2 : Byte) (s : State) : State :=
  match (fieldX op2).toNat with
  | 0 => rotateOperand (rotOf (fieldY op2)) (operand8Of (fieldZ op2)) s
  | 1 => testBit (fieldY op2).toNat (operand8Of (fieldZ op2)) s
  | 2 => clearBit (fieldY op2).toNat (operand8Of (fieldZ op2)) s
  | _ => setBit (fieldY op2).toNat (operand8Of (fieldZ op2)) s

/-- `PREFIX CB`: `op2 <- Fetch8()`, then `extended[op2]` (46_system.md R266). -/
def prefixed (s : State) : State := extendedOp (read8 s s.cpu.pc) (advance s 1)

/-! One meaning for each instruction. -/

/-- `RLCA` (R220). -/
def execRlca (s : State) : Result := .next (rotateA .rlc s)

/-- `RRCA` (R221). -/
def execRrca (s : State) : Result := .next (rotateA .rrc s)

/-- `RLA` (R222). -/
def execRla (s : State) : Result := .next (rotateA .rl s)

/-- `RRA` (R223). -/
def execRra (s : State) : Result := .next (rotateA .rr s)

/-- `PREFIX CB` (R266). -/
def execPrefixCB (s : State) : Result := .next (prefixed s)

/-- `RLC B` (R224). -/
def execRlc_B (s : State) : Result := .next (rotateOperand .rlc (.reg .b) s)

/-- `RLC C` (R224). -/
def execRlc_C (s : State) : Result := .next (rotateOperand .rlc (.reg .c) s)

/-- `RLC D` (R224). -/
def execRlc_D (s : State) : Result := .next (rotateOperand .rlc (.reg .d) s)

/-- `RLC E` (R224). -/
def execRlc_E (s : State) : Result := .next (rotateOperand .rlc (.reg .e) s)

/-- `RLC H` (R224). -/
def execRlc_H (s : State) : Result := .next (rotateOperand .rlc (.reg .h) s)

/-- `RLC L` (R224). -/
def execRlc_L (s : State) : Result := .next (rotateOperand .rlc (.reg .l) s)

/-- `RLC (HL)` (R224). -/
def execRlc_atHL (s : State) : Result := .next (rotateOperand .rlc .atHL s)

/-- `RLC A` (R224). -/
def execRlc_A (s : State) : Result := .next (rotateOperand .rlc (.reg .a) s)

/-- `RRC B` (R225). -/
def execRrc_B (s : State) : Result := .next (rotateOperand .rrc (.reg .b) s)

/-- `RRC C` (R225). -/
def execRrc_C (s : State) : Result := .next (rotateOperand .rrc (.reg .c) s)

/-- `RRC D` (R225). -/
def execRrc_D (s : State) : Result := .next (rotateOperand .rrc (.reg .d) s)

/-- `RRC E` (R225). -/
def execRrc_E (s : State) : Result := .next (rotateOperand .rrc (.reg .e) s)

/-- `RRC H` (R225). -/
def execRrc_H (s : State) : Result := .next (rotateOperand .rrc (.reg .h) s)

/-- `RRC L` (R225). -/
def execRrc_L (s : State) : Result := .next (rotateOperand .rrc (.reg .l) s)

/-- `RRC (HL)` (R225). -/
def execRrc_atHL (s : State) : Result := .next (rotateOperand .rrc .atHL s)

/-- `RRC A` (R225). -/
def execRrc_A (s : State) : Result := .next (rotateOperand .rrc (.reg .a) s)

/-- `RL B` (R226). -/
def execRl_B (s : State) : Result := .next (rotateOperand .rl (.reg .b) s)

/-- `RL C` (R226). -/
def execRl_C (s : State) : Result := .next (rotateOperand .rl (.reg .c) s)

/-- `RL D` (R226). -/
def execRl_D (s : State) : Result := .next (rotateOperand .rl (.reg .d) s)

/-- `RL E` (R226). -/
def execRl_E (s : State) : Result := .next (rotateOperand .rl (.reg .e) s)

/-- `RL H` (R226). -/
def execRl_H (s : State) : Result := .next (rotateOperand .rl (.reg .h) s)

/-- `RL L` (R226). -/
def execRl_L (s : State) : Result := .next (rotateOperand .rl (.reg .l) s)

/-- `RL (HL)` (R226). -/
def execRl_atHL (s : State) : Result := .next (rotateOperand .rl .atHL s)

/-- `RL A` (R226). -/
def execRl_A (s : State) : Result := .next (rotateOperand .rl (.reg .a) s)

/-- `RR B` (R227). -/
def execRr_B (s : State) : Result := .next (rotateOperand .rr (.reg .b) s)

/-- `RR C` (R227). -/
def execRr_C (s : State) : Result := .next (rotateOperand .rr (.reg .c) s)

/-- `RR D` (R227). -/
def execRr_D (s : State) : Result := .next (rotateOperand .rr (.reg .d) s)

/-- `RR E` (R227). -/
def execRr_E (s : State) : Result := .next (rotateOperand .rr (.reg .e) s)

/-- `RR H` (R227). -/
def execRr_H (s : State) : Result := .next (rotateOperand .rr (.reg .h) s)

/-- `RR L` (R227). -/
def execRr_L (s : State) : Result := .next (rotateOperand .rr (.reg .l) s)

/-- `RR (HL)` (R227). -/
def execRr_atHL (s : State) : Result := .next (rotateOperand .rr .atHL s)

/-- `RR A` (R227). -/
def execRr_A (s : State) : Result := .next (rotateOperand .rr (.reg .a) s)

/-- `SLA B` (R228). -/
def execSla_B (s : State) : Result := .next (rotateOperand .sla (.reg .b) s)

/-- `SLA C` (R228). -/
def execSla_C (s : State) : Result := .next (rotateOperand .sla (.reg .c) s)

/-- `SLA D` (R228). -/
def execSla_D (s : State) : Result := .next (rotateOperand .sla (.reg .d) s)

/-- `SLA E` (R228). -/
def execSla_E (s : State) : Result := .next (rotateOperand .sla (.reg .e) s)

/-- `SLA H` (R228). -/
def execSla_H (s : State) : Result := .next (rotateOperand .sla (.reg .h) s)

/-- `SLA L` (R228). -/
def execSla_L (s : State) : Result := .next (rotateOperand .sla (.reg .l) s)

/-- `SLA (HL)` (R228). -/
def execSla_atHL (s : State) : Result := .next (rotateOperand .sla .atHL s)

/-- `SLA A` (R228). -/
def execSla_A (s : State) : Result := .next (rotateOperand .sla (.reg .a) s)

/-- `SRA B` (R229). -/
def execSra_B (s : State) : Result := .next (rotateOperand .sra (.reg .b) s)

/-- `SRA C` (R229). -/
def execSra_C (s : State) : Result := .next (rotateOperand .sra (.reg .c) s)

/-- `SRA D` (R229). -/
def execSra_D (s : State) : Result := .next (rotateOperand .sra (.reg .d) s)

/-- `SRA E` (R229). -/
def execSra_E (s : State) : Result := .next (rotateOperand .sra (.reg .e) s)

/-- `SRA H` (R229). -/
def execSra_H (s : State) : Result := .next (rotateOperand .sra (.reg .h) s)

/-- `SRA L` (R229). -/
def execSra_L (s : State) : Result := .next (rotateOperand .sra (.reg .l) s)

/-- `SRA (HL)` (R229). -/
def execSra_atHL (s : State) : Result := .next (rotateOperand .sra .atHL s)

/-- `SRA A` (R229). -/
def execSra_A (s : State) : Result := .next (rotateOperand .sra (.reg .a) s)

/-- `SWAP B` (R230). -/
def execSwap_B (s : State) : Result := .next (rotateOperand .swap (.reg .b) s)

/-- `SWAP C` (R230). -/
def execSwap_C (s : State) : Result := .next (rotateOperand .swap (.reg .c) s)

/-- `SWAP D` (R230). -/
def execSwap_D (s : State) : Result := .next (rotateOperand .swap (.reg .d) s)

/-- `SWAP E` (R230). -/
def execSwap_E (s : State) : Result := .next (rotateOperand .swap (.reg .e) s)

/-- `SWAP H` (R230). -/
def execSwap_H (s : State) : Result := .next (rotateOperand .swap (.reg .h) s)

/-- `SWAP L` (R230). -/
def execSwap_L (s : State) : Result := .next (rotateOperand .swap (.reg .l) s)

/-- `SWAP (HL)` (R230). -/
def execSwap_atHL (s : State) : Result := .next (rotateOperand .swap .atHL s)

/-- `SWAP A` (R230). -/
def execSwap_A (s : State) : Result := .next (rotateOperand .swap (.reg .a) s)

/-- `SRL B` (R231). -/
def execSrl_B (s : State) : Result := .next (rotateOperand .srl (.reg .b) s)

/-- `SRL C` (R231). -/
def execSrl_C (s : State) : Result := .next (rotateOperand .srl (.reg .c) s)

/-- `SRL D` (R231). -/
def execSrl_D (s : State) : Result := .next (rotateOperand .srl (.reg .d) s)

/-- `SRL E` (R231). -/
def execSrl_E (s : State) : Result := .next (rotateOperand .srl (.reg .e) s)

/-- `SRL H` (R231). -/
def execSrl_H (s : State) : Result := .next (rotateOperand .srl (.reg .h) s)

/-- `SRL L` (R231). -/
def execSrl_L (s : State) : Result := .next (rotateOperand .srl (.reg .l) s)

/-- `SRL (HL)` (R231). -/
def execSrl_atHL (s : State) : Result := .next (rotateOperand .srl .atHL s)

/-- `SRL A` (R231). -/
def execSrl_A (s : State) : Result := .next (rotateOperand .srl (.reg .a) s)

/-- `BIT 0,B` (R232). -/
def execBit_0_B (s : State) : Result := .next (testBit 0 (.reg .b) s)

/-- `BIT 0,C` (R232). -/
def execBit_0_C (s : State) : Result := .next (testBit 0 (.reg .c) s)

/-- `BIT 0,D` (R232). -/
def execBit_0_D (s : State) : Result := .next (testBit 0 (.reg .d) s)

/-- `BIT 0,E` (R232). -/
def execBit_0_E (s : State) : Result := .next (testBit 0 (.reg .e) s)

/-- `BIT 0,H` (R232). -/
def execBit_0_H (s : State) : Result := .next (testBit 0 (.reg .h) s)

/-- `BIT 0,L` (R232). -/
def execBit_0_L (s : State) : Result := .next (testBit 0 (.reg .l) s)

/-- `BIT 0,(HL)` (R232). -/
def execBit_0_atHL (s : State) : Result := .next (testBit 0 .atHL s)

/-- `BIT 0,A` (R232). -/
def execBit_0_A (s : State) : Result := .next (testBit 0 (.reg .a) s)

/-- `BIT 1,B` (R232). -/
def execBit_1_B (s : State) : Result := .next (testBit 1 (.reg .b) s)

/-- `BIT 1,C` (R232). -/
def execBit_1_C (s : State) : Result := .next (testBit 1 (.reg .c) s)

/-- `BIT 1,D` (R232). -/
def execBit_1_D (s : State) : Result := .next (testBit 1 (.reg .d) s)

/-- `BIT 1,E` (R232). -/
def execBit_1_E (s : State) : Result := .next (testBit 1 (.reg .e) s)

/-- `BIT 1,H` (R232). -/
def execBit_1_H (s : State) : Result := .next (testBit 1 (.reg .h) s)

/-- `BIT 1,L` (R232). -/
def execBit_1_L (s : State) : Result := .next (testBit 1 (.reg .l) s)

/-- `BIT 1,(HL)` (R232). -/
def execBit_1_atHL (s : State) : Result := .next (testBit 1 .atHL s)

/-- `BIT 1,A` (R232). -/
def execBit_1_A (s : State) : Result := .next (testBit 1 (.reg .a) s)

/-- `BIT 2,B` (R232). -/
def execBit_2_B (s : State) : Result := .next (testBit 2 (.reg .b) s)

/-- `BIT 2,C` (R232). -/
def execBit_2_C (s : State) : Result := .next (testBit 2 (.reg .c) s)

/-- `BIT 2,D` (R232). -/
def execBit_2_D (s : State) : Result := .next (testBit 2 (.reg .d) s)

/-- `BIT 2,E` (R232). -/
def execBit_2_E (s : State) : Result := .next (testBit 2 (.reg .e) s)

/-- `BIT 2,H` (R232). -/
def execBit_2_H (s : State) : Result := .next (testBit 2 (.reg .h) s)

/-- `BIT 2,L` (R232). -/
def execBit_2_L (s : State) : Result := .next (testBit 2 (.reg .l) s)

/-- `BIT 2,(HL)` (R232). -/
def execBit_2_atHL (s : State) : Result := .next (testBit 2 .atHL s)

/-- `BIT 2,A` (R232). -/
def execBit_2_A (s : State) : Result := .next (testBit 2 (.reg .a) s)

/-- `BIT 3,B` (R232). -/
def execBit_3_B (s : State) : Result := .next (testBit 3 (.reg .b) s)

/-- `BIT 3,C` (R232). -/
def execBit_3_C (s : State) : Result := .next (testBit 3 (.reg .c) s)

/-- `BIT 3,D` (R232). -/
def execBit_3_D (s : State) : Result := .next (testBit 3 (.reg .d) s)

/-- `BIT 3,E` (R232). -/
def execBit_3_E (s : State) : Result := .next (testBit 3 (.reg .e) s)

/-- `BIT 3,H` (R232). -/
def execBit_3_H (s : State) : Result := .next (testBit 3 (.reg .h) s)

/-- `BIT 3,L` (R232). -/
def execBit_3_L (s : State) : Result := .next (testBit 3 (.reg .l) s)

/-- `BIT 3,(HL)` (R232). -/
def execBit_3_atHL (s : State) : Result := .next (testBit 3 .atHL s)

/-- `BIT 3,A` (R232). -/
def execBit_3_A (s : State) : Result := .next (testBit 3 (.reg .a) s)

/-- `BIT 4,B` (R232). -/
def execBit_4_B (s : State) : Result := .next (testBit 4 (.reg .b) s)

/-- `BIT 4,C` (R232). -/
def execBit_4_C (s : State) : Result := .next (testBit 4 (.reg .c) s)

/-- `BIT 4,D` (R232). -/
def execBit_4_D (s : State) : Result := .next (testBit 4 (.reg .d) s)

/-- `BIT 4,E` (R232). -/
def execBit_4_E (s : State) : Result := .next (testBit 4 (.reg .e) s)

/-- `BIT 4,H` (R232). -/
def execBit_4_H (s : State) : Result := .next (testBit 4 (.reg .h) s)

/-- `BIT 4,L` (R232). -/
def execBit_4_L (s : State) : Result := .next (testBit 4 (.reg .l) s)

/-- `BIT 4,(HL)` (R232). -/
def execBit_4_atHL (s : State) : Result := .next (testBit 4 .atHL s)

/-- `BIT 4,A` (R232). -/
def execBit_4_A (s : State) : Result := .next (testBit 4 (.reg .a) s)

/-- `BIT 5,B` (R232). -/
def execBit_5_B (s : State) : Result := .next (testBit 5 (.reg .b) s)

/-- `BIT 5,C` (R232). -/
def execBit_5_C (s : State) : Result := .next (testBit 5 (.reg .c) s)

/-- `BIT 5,D` (R232). -/
def execBit_5_D (s : State) : Result := .next (testBit 5 (.reg .d) s)

/-- `BIT 5,E` (R232). -/
def execBit_5_E (s : State) : Result := .next (testBit 5 (.reg .e) s)

/-- `BIT 5,H` (R232). -/
def execBit_5_H (s : State) : Result := .next (testBit 5 (.reg .h) s)

/-- `BIT 5,L` (R232). -/
def execBit_5_L (s : State) : Result := .next (testBit 5 (.reg .l) s)

/-- `BIT 5,(HL)` (R232). -/
def execBit_5_atHL (s : State) : Result := .next (testBit 5 .atHL s)

/-- `BIT 5,A` (R232). -/
def execBit_5_A (s : State) : Result := .next (testBit 5 (.reg .a) s)

/-- `BIT 6,B` (R232). -/
def execBit_6_B (s : State) : Result := .next (testBit 6 (.reg .b) s)

/-- `BIT 6,C` (R232). -/
def execBit_6_C (s : State) : Result := .next (testBit 6 (.reg .c) s)

/-- `BIT 6,D` (R232). -/
def execBit_6_D (s : State) : Result := .next (testBit 6 (.reg .d) s)

/-- `BIT 6,E` (R232). -/
def execBit_6_E (s : State) : Result := .next (testBit 6 (.reg .e) s)

/-- `BIT 6,H` (R232). -/
def execBit_6_H (s : State) : Result := .next (testBit 6 (.reg .h) s)

/-- `BIT 6,L` (R232). -/
def execBit_6_L (s : State) : Result := .next (testBit 6 (.reg .l) s)

/-- `BIT 6,(HL)` (R232). -/
def execBit_6_atHL (s : State) : Result := .next (testBit 6 .atHL s)

/-- `BIT 6,A` (R232). -/
def execBit_6_A (s : State) : Result := .next (testBit 6 (.reg .a) s)

/-- `BIT 7,B` (R232). -/
def execBit_7_B (s : State) : Result := .next (testBit 7 (.reg .b) s)

/-- `BIT 7,C` (R232). -/
def execBit_7_C (s : State) : Result := .next (testBit 7 (.reg .c) s)

/-- `BIT 7,D` (R232). -/
def execBit_7_D (s : State) : Result := .next (testBit 7 (.reg .d) s)

/-- `BIT 7,E` (R232). -/
def execBit_7_E (s : State) : Result := .next (testBit 7 (.reg .e) s)

/-- `BIT 7,H` (R232). -/
def execBit_7_H (s : State) : Result := .next (testBit 7 (.reg .h) s)

/-- `BIT 7,L` (R232). -/
def execBit_7_L (s : State) : Result := .next (testBit 7 (.reg .l) s)

/-- `BIT 7,(HL)` (R232). -/
def execBit_7_atHL (s : State) : Result := .next (testBit 7 .atHL s)

/-- `BIT 7,A` (R232). -/
def execBit_7_A (s : State) : Result := .next (testBit 7 (.reg .a) s)

/-- `RES 0,B` (R233). -/
def execRes_0_B (s : State) : Result := .next (clearBit 0 (.reg .b) s)

/-- `RES 0,C` (R233). -/
def execRes_0_C (s : State) : Result := .next (clearBit 0 (.reg .c) s)

/-- `RES 0,D` (R233). -/
def execRes_0_D (s : State) : Result := .next (clearBit 0 (.reg .d) s)

/-- `RES 0,E` (R233). -/
def execRes_0_E (s : State) : Result := .next (clearBit 0 (.reg .e) s)

/-- `RES 0,H` (R233). -/
def execRes_0_H (s : State) : Result := .next (clearBit 0 (.reg .h) s)

/-- `RES 0,L` (R233). -/
def execRes_0_L (s : State) : Result := .next (clearBit 0 (.reg .l) s)

/-- `RES 0,(HL)` (R233). -/
def execRes_0_atHL (s : State) : Result := .next (clearBit 0 .atHL s)

/-- `RES 0,A` (R233). -/
def execRes_0_A (s : State) : Result := .next (clearBit 0 (.reg .a) s)

/-- `RES 1,B` (R233). -/
def execRes_1_B (s : State) : Result := .next (clearBit 1 (.reg .b) s)

/-- `RES 1,C` (R233). -/
def execRes_1_C (s : State) : Result := .next (clearBit 1 (.reg .c) s)

/-- `RES 1,D` (R233). -/
def execRes_1_D (s : State) : Result := .next (clearBit 1 (.reg .d) s)

/-- `RES 1,E` (R233). -/
def execRes_1_E (s : State) : Result := .next (clearBit 1 (.reg .e) s)

/-- `RES 1,H` (R233). -/
def execRes_1_H (s : State) : Result := .next (clearBit 1 (.reg .h) s)

/-- `RES 1,L` (R233). -/
def execRes_1_L (s : State) : Result := .next (clearBit 1 (.reg .l) s)

/-- `RES 1,(HL)` (R233). -/
def execRes_1_atHL (s : State) : Result := .next (clearBit 1 .atHL s)

/-- `RES 1,A` (R233). -/
def execRes_1_A (s : State) : Result := .next (clearBit 1 (.reg .a) s)

/-- `RES 2,B` (R233). -/
def execRes_2_B (s : State) : Result := .next (clearBit 2 (.reg .b) s)

/-- `RES 2,C` (R233). -/
def execRes_2_C (s : State) : Result := .next (clearBit 2 (.reg .c) s)

/-- `RES 2,D` (R233). -/
def execRes_2_D (s : State) : Result := .next (clearBit 2 (.reg .d) s)

/-- `RES 2,E` (R233). -/
def execRes_2_E (s : State) : Result := .next (clearBit 2 (.reg .e) s)

/-- `RES 2,H` (R233). -/
def execRes_2_H (s : State) : Result := .next (clearBit 2 (.reg .h) s)

/-- `RES 2,L` (R233). -/
def execRes_2_L (s : State) : Result := .next (clearBit 2 (.reg .l) s)

/-- `RES 2,(HL)` (R233). -/
def execRes_2_atHL (s : State) : Result := .next (clearBit 2 .atHL s)

/-- `RES 2,A` (R233). -/
def execRes_2_A (s : State) : Result := .next (clearBit 2 (.reg .a) s)

/-- `RES 3,B` (R233). -/
def execRes_3_B (s : State) : Result := .next (clearBit 3 (.reg .b) s)

/-- `RES 3,C` (R233). -/
def execRes_3_C (s : State) : Result := .next (clearBit 3 (.reg .c) s)

/-- `RES 3,D` (R233). -/
def execRes_3_D (s : State) : Result := .next (clearBit 3 (.reg .d) s)

/-- `RES 3,E` (R233). -/
def execRes_3_E (s : State) : Result := .next (clearBit 3 (.reg .e) s)

/-- `RES 3,H` (R233). -/
def execRes_3_H (s : State) : Result := .next (clearBit 3 (.reg .h) s)

/-- `RES 3,L` (R233). -/
def execRes_3_L (s : State) : Result := .next (clearBit 3 (.reg .l) s)

/-- `RES 3,(HL)` (R233). -/
def execRes_3_atHL (s : State) : Result := .next (clearBit 3 .atHL s)

/-- `RES 3,A` (R233). -/
def execRes_3_A (s : State) : Result := .next (clearBit 3 (.reg .a) s)

/-- `RES 4,B` (R233). -/
def execRes_4_B (s : State) : Result := .next (clearBit 4 (.reg .b) s)

/-- `RES 4,C` (R233). -/
def execRes_4_C (s : State) : Result := .next (clearBit 4 (.reg .c) s)

/-- `RES 4,D` (R233). -/
def execRes_4_D (s : State) : Result := .next (clearBit 4 (.reg .d) s)

/-- `RES 4,E` (R233). -/
def execRes_4_E (s : State) : Result := .next (clearBit 4 (.reg .e) s)

/-- `RES 4,H` (R233). -/
def execRes_4_H (s : State) : Result := .next (clearBit 4 (.reg .h) s)

/-- `RES 4,L` (R233). -/
def execRes_4_L (s : State) : Result := .next (clearBit 4 (.reg .l) s)

/-- `RES 4,(HL)` (R233). -/
def execRes_4_atHL (s : State) : Result := .next (clearBit 4 .atHL s)

/-- `RES 4,A` (R233). -/
def execRes_4_A (s : State) : Result := .next (clearBit 4 (.reg .a) s)

/-- `RES 5,B` (R233). -/
def execRes_5_B (s : State) : Result := .next (clearBit 5 (.reg .b) s)

/-- `RES 5,C` (R233). -/
def execRes_5_C (s : State) : Result := .next (clearBit 5 (.reg .c) s)

/-- `RES 5,D` (R233). -/
def execRes_5_D (s : State) : Result := .next (clearBit 5 (.reg .d) s)

/-- `RES 5,E` (R233). -/
def execRes_5_E (s : State) : Result := .next (clearBit 5 (.reg .e) s)

/-- `RES 5,H` (R233). -/
def execRes_5_H (s : State) : Result := .next (clearBit 5 (.reg .h) s)

/-- `RES 5,L` (R233). -/
def execRes_5_L (s : State) : Result := .next (clearBit 5 (.reg .l) s)

/-- `RES 5,(HL)` (R233). -/
def execRes_5_atHL (s : State) : Result := .next (clearBit 5 .atHL s)

/-- `RES 5,A` (R233). -/
def execRes_5_A (s : State) : Result := .next (clearBit 5 (.reg .a) s)

/-- `RES 6,B` (R233). -/
def execRes_6_B (s : State) : Result := .next (clearBit 6 (.reg .b) s)

/-- `RES 6,C` (R233). -/
def execRes_6_C (s : State) : Result := .next (clearBit 6 (.reg .c) s)

/-- `RES 6,D` (R233). -/
def execRes_6_D (s : State) : Result := .next (clearBit 6 (.reg .d) s)

/-- `RES 6,E` (R233). -/
def execRes_6_E (s : State) : Result := .next (clearBit 6 (.reg .e) s)

/-- `RES 6,H` (R233). -/
def execRes_6_H (s : State) : Result := .next (clearBit 6 (.reg .h) s)

/-- `RES 6,L` (R233). -/
def execRes_6_L (s : State) : Result := .next (clearBit 6 (.reg .l) s)

/-- `RES 6,(HL)` (R233). -/
def execRes_6_atHL (s : State) : Result := .next (clearBit 6 .atHL s)

/-- `RES 6,A` (R233). -/
def execRes_6_A (s : State) : Result := .next (clearBit 6 (.reg .a) s)

/-- `RES 7,B` (R233). -/
def execRes_7_B (s : State) : Result := .next (clearBit 7 (.reg .b) s)

/-- `RES 7,C` (R233). -/
def execRes_7_C (s : State) : Result := .next (clearBit 7 (.reg .c) s)

/-- `RES 7,D` (R233). -/
def execRes_7_D (s : State) : Result := .next (clearBit 7 (.reg .d) s)

/-- `RES 7,E` (R233). -/
def execRes_7_E (s : State) : Result := .next (clearBit 7 (.reg .e) s)

/-- `RES 7,H` (R233). -/
def execRes_7_H (s : State) : Result := .next (clearBit 7 (.reg .h) s)

/-- `RES 7,L` (R233). -/
def execRes_7_L (s : State) : Result := .next (clearBit 7 (.reg .l) s)

/-- `RES 7,(HL)` (R233). -/
def execRes_7_atHL (s : State) : Result := .next (clearBit 7 .atHL s)

/-- `RES 7,A` (R233). -/
def execRes_7_A (s : State) : Result := .next (clearBit 7 (.reg .a) s)

/-- `SET 0,B` (R234). -/
def execSet_0_B (s : State) : Result := .next (setBit 0 (.reg .b) s)

/-- `SET 0,C` (R234). -/
def execSet_0_C (s : State) : Result := .next (setBit 0 (.reg .c) s)

/-- `SET 0,D` (R234). -/
def execSet_0_D (s : State) : Result := .next (setBit 0 (.reg .d) s)

/-- `SET 0,E` (R234). -/
def execSet_0_E (s : State) : Result := .next (setBit 0 (.reg .e) s)

/-- `SET 0,H` (R234). -/
def execSet_0_H (s : State) : Result := .next (setBit 0 (.reg .h) s)

/-- `SET 0,L` (R234). -/
def execSet_0_L (s : State) : Result := .next (setBit 0 (.reg .l) s)

/-- `SET 0,(HL)` (R234). -/
def execSet_0_atHL (s : State) : Result := .next (setBit 0 .atHL s)

/-- `SET 0,A` (R234). -/
def execSet_0_A (s : State) : Result := .next (setBit 0 (.reg .a) s)

/-- `SET 1,B` (R234). -/
def execSet_1_B (s : State) : Result := .next (setBit 1 (.reg .b) s)

/-- `SET 1,C` (R234). -/
def execSet_1_C (s : State) : Result := .next (setBit 1 (.reg .c) s)

/-- `SET 1,D` (R234). -/
def execSet_1_D (s : State) : Result := .next (setBit 1 (.reg .d) s)

/-- `SET 1,E` (R234). -/
def execSet_1_E (s : State) : Result := .next (setBit 1 (.reg .e) s)

/-- `SET 1,H` (R234). -/
def execSet_1_H (s : State) : Result := .next (setBit 1 (.reg .h) s)

/-- `SET 1,L` (R234). -/
def execSet_1_L (s : State) : Result := .next (setBit 1 (.reg .l) s)

/-- `SET 1,(HL)` (R234). -/
def execSet_1_atHL (s : State) : Result := .next (setBit 1 .atHL s)

/-- `SET 1,A` (R234). -/
def execSet_1_A (s : State) : Result := .next (setBit 1 (.reg .a) s)

/-- `SET 2,B` (R234). -/
def execSet_2_B (s : State) : Result := .next (setBit 2 (.reg .b) s)

/-- `SET 2,C` (R234). -/
def execSet_2_C (s : State) : Result := .next (setBit 2 (.reg .c) s)

/-- `SET 2,D` (R234). -/
def execSet_2_D (s : State) : Result := .next (setBit 2 (.reg .d) s)

/-- `SET 2,E` (R234). -/
def execSet_2_E (s : State) : Result := .next (setBit 2 (.reg .e) s)

/-- `SET 2,H` (R234). -/
def execSet_2_H (s : State) : Result := .next (setBit 2 (.reg .h) s)

/-- `SET 2,L` (R234). -/
def execSet_2_L (s : State) : Result := .next (setBit 2 (.reg .l) s)

/-- `SET 2,(HL)` (R234). -/
def execSet_2_atHL (s : State) : Result := .next (setBit 2 .atHL s)

/-- `SET 2,A` (R234). -/
def execSet_2_A (s : State) : Result := .next (setBit 2 (.reg .a) s)

/-- `SET 3,B` (R234). -/
def execSet_3_B (s : State) : Result := .next (setBit 3 (.reg .b) s)

/-- `SET 3,C` (R234). -/
def execSet_3_C (s : State) : Result := .next (setBit 3 (.reg .c) s)

/-- `SET 3,D` (R234). -/
def execSet_3_D (s : State) : Result := .next (setBit 3 (.reg .d) s)

/-- `SET 3,E` (R234). -/
def execSet_3_E (s : State) : Result := .next (setBit 3 (.reg .e) s)

/-- `SET 3,H` (R234). -/
def execSet_3_H (s : State) : Result := .next (setBit 3 (.reg .h) s)

/-- `SET 3,L` (R234). -/
def execSet_3_L (s : State) : Result := .next (setBit 3 (.reg .l) s)

/-- `SET 3,(HL)` (R234). -/
def execSet_3_atHL (s : State) : Result := .next (setBit 3 .atHL s)

/-- `SET 3,A` (R234). -/
def execSet_3_A (s : State) : Result := .next (setBit 3 (.reg .a) s)

/-- `SET 4,B` (R234). -/
def execSet_4_B (s : State) : Result := .next (setBit 4 (.reg .b) s)

/-- `SET 4,C` (R234). -/
def execSet_4_C (s : State) : Result := .next (setBit 4 (.reg .c) s)

/-- `SET 4,D` (R234). -/
def execSet_4_D (s : State) : Result := .next (setBit 4 (.reg .d) s)

/-- `SET 4,E` (R234). -/
def execSet_4_E (s : State) : Result := .next (setBit 4 (.reg .e) s)

/-- `SET 4,H` (R234). -/
def execSet_4_H (s : State) : Result := .next (setBit 4 (.reg .h) s)

/-- `SET 4,L` (R234). -/
def execSet_4_L (s : State) : Result := .next (setBit 4 (.reg .l) s)

/-- `SET 4,(HL)` (R234). -/
def execSet_4_atHL (s : State) : Result := .next (setBit 4 .atHL s)

/-- `SET 4,A` (R234). -/
def execSet_4_A (s : State) : Result := .next (setBit 4 (.reg .a) s)

/-- `SET 5,B` (R234). -/
def execSet_5_B (s : State) : Result := .next (setBit 5 (.reg .b) s)

/-- `SET 5,C` (R234). -/
def execSet_5_C (s : State) : Result := .next (setBit 5 (.reg .c) s)

/-- `SET 5,D` (R234). -/
def execSet_5_D (s : State) : Result := .next (setBit 5 (.reg .d) s)

/-- `SET 5,E` (R234). -/
def execSet_5_E (s : State) : Result := .next (setBit 5 (.reg .e) s)

/-- `SET 5,H` (R234). -/
def execSet_5_H (s : State) : Result := .next (setBit 5 (.reg .h) s)

/-- `SET 5,L` (R234). -/
def execSet_5_L (s : State) : Result := .next (setBit 5 (.reg .l) s)

/-- `SET 5,(HL)` (R234). -/
def execSet_5_atHL (s : State) : Result := .next (setBit 5 .atHL s)

/-- `SET 5,A` (R234). -/
def execSet_5_A (s : State) : Result := .next (setBit 5 (.reg .a) s)

/-- `SET 6,B` (R234). -/
def execSet_6_B (s : State) : Result := .next (setBit 6 (.reg .b) s)

/-- `SET 6,C` (R234). -/
def execSet_6_C (s : State) : Result := .next (setBit 6 (.reg .c) s)

/-- `SET 6,D` (R234). -/
def execSet_6_D (s : State) : Result := .next (setBit 6 (.reg .d) s)

/-- `SET 6,E` (R234). -/
def execSet_6_E (s : State) : Result := .next (setBit 6 (.reg .e) s)

/-- `SET 6,H` (R234). -/
def execSet_6_H (s : State) : Result := .next (setBit 6 (.reg .h) s)

/-- `SET 6,L` (R234). -/
def execSet_6_L (s : State) : Result := .next (setBit 6 (.reg .l) s)

/-- `SET 6,(HL)` (R234). -/
def execSet_6_atHL (s : State) : Result := .next (setBit 6 .atHL s)

/-- `SET 6,A` (R234). -/
def execSet_6_A (s : State) : Result := .next (setBit 6 (.reg .a) s)

/-- `SET 7,B` (R234). -/
def execSet_7_B (s : State) : Result := .next (setBit 7 (.reg .b) s)

/-- `SET 7,C` (R234). -/
def execSet_7_C (s : State) : Result := .next (setBit 7 (.reg .c) s)

/-- `SET 7,D` (R234). -/
def execSet_7_D (s : State) : Result := .next (setBit 7 (.reg .d) s)

/-- `SET 7,E` (R234). -/
def execSet_7_E (s : State) : Result := .next (setBit 7 (.reg .e) s)

/-- `SET 7,H` (R234). -/
def execSet_7_H (s : State) : Result := .next (setBit 7 (.reg .h) s)

/-- `SET 7,L` (R234). -/
def execSet_7_L (s : State) : Result := .next (setBit 7 (.reg .l) s)

/-- `SET 7,(HL)` (R234). -/
def execSet_7_atHL (s : State) : Result := .next (setBit 7 .atHL s)

/-- `SET 7,A` (R234). -/
def execSet_7_A (s : State) : Result := .next (setBit 7 (.reg .a) s)

end Sys2Proof.Machine
end

