-- ==== Sys2Proof/Machine/System.lean ====
section
/-! DEFINITION. The meanings of the system instructions and undefined opcodes (46_system.md). `s` is the state after the fetch: `pc` is past the
instruction. Every meaning completes. -/

namespace Sys2Proof.Machine

open Sys2Proof

/-! The operations the family shares. -/

/-- No operation (R260). -/
def idle (s : State) : State := s.spend 4

/-- `mode <- Halted` (R261). -/
def enterHalt (s : State) : State := s.setCpu { s.cpu with mode := .halted, cycles := 4 }

/-- `mode <- Stopped` (R263): the byte after the opcode is already fetched and discarded. -/
def enterStop (s : State) : State := s.setCpu { s.cpu with mode := .stopped, cycles := 4 }

/-- `IME <- 0; ei_pending <- 0` (R264). -/
def disableInterrupts (s : State) : State :=
  s.setCpu { s.cpu with ime := false, eiPending := false, cycles := 4 }

/-- `ei_pending <- 1` (R265): `IME` follows at the end of the next instruction's step (60_exceptions.md R282). -/
def enableInterrupts (s : State) : State := s.setCpu { s.cpu with eiPending := true, cycles := 4 }

/-! One meaning for each instruction. -/

/-- `NOP` (R260). -/
def execNop (s : State) : Result := .next (idle s)

/-- `STOP` (R263). -/
def execStop (_pad : Byte) (s : State) : Result := .next (enterStop s)

/-- `HALT` (R261). -/
def execHalt (s : State) : Result := .next (enterHalt s)

/-- `The eleven unassigned bytes` (R268). -/
def execUndefined (op : Byte) (s : State) : Result := .next (raiseFatal s op)

/-- `DI` (R264). -/
def execDi (s : State) : Result := .next (disableInterrupts s)

/-- `EI` (R265). -/
def execEi (s : State) : Result := .next (enableInterrupts s)

end Sys2Proof.Machine
end

