-- ==== Sys2Proof/Machine/Inputs.lean ====
section
/-! DEFINITION. The host interface (20_memory.md R93): what the host does to the machine between two ticks, building a
machine from an image, placing instruction bytes, and the read-only debug surface. -/

namespace Sys2Proof.Machine

open Sys2Proof

/-! Inputs at a tick boundary. -/

/-- The reset request (70_reset_and_hazards.md R460, R462): every component at its post-boot state, RAM arbitrary again
(R466), the cartridge kept. The host's side is no part of it: inputs still to come, the sink's depth and the batches
already pushed stay. -/
def resetRequest (s : State) : State :=
  let t := State.postBoot s.cart (s.bus.wram.epoch + 1)
  { t with apu := { t.apu with pushed := s.apu.pushed }, inputs := s.inputs, sinkPending := s.sinkPending }

/-- One host event (R93). -/
def applyEvent (s : State) (e : HostEvent) : State :=
  match e with
  | .buttons b => { s with joypad := s.joypad.setButtons b }
  | .reset => resetRequest s
  | .setRam data => { s with cart := s.cart.setRam data }
  | .consumeDirty => { s with cart := s.cart.consumeDirty }
  | .takeFrame => { s with ppu := { s.ppu with frameReady := false } }
  | .sinkDepth n => { s with sinkPending := n }

/-- Events in the order given. -/
def applyEvents : List HostEvent → State → State
  | [], s => s
  | e :: rest, s => applyEvents rest (applyEvent s e)

/-- The inputs that arrive at this tick boundary, taken off the queue. -/
def deliver (s : State) : State :=
  match s.inputs with
  | [] => s
  | events :: rest => applyEvents events { s with inputs := rest }

/-! Power-on (R460; 21_cartridge.md R100 to R102, R121). -/

/-- The machine built from a ROM image and, where the host supplies one, a saved RAM dump. -/
def State.powerOn (image : List Byte) (save : Option (List Byte)) : Result :=
  match Cart.construct image with
  | none => .refused .cartridgeNotSupported
  | some k =>
    match save with
    | none => .next (State.postBoot k 0)
    | some data => .next (State.postBoot (k.setRam data) 0)

/-! Placing bytes where the fetch finds them. -/

/-- Storing a byte in the storage behind an address, past every gate and with no side effect. A register address has
no storage to place a byte in and is left alone. -/
def poke (s : State) (addr : Word) (v : Byte) : State :=
  match route addr with
  | .rom a => { s with cart := { s.cart with rom := s.cart.rom.put (s.cart.romOffset a) v } }
  | .vram k => { s with ppu := { s.ppu with vram := s.ppu.vram.write k v } }
  | .ext a =>
    match s.cart.extTarget a with
    | .absent => s
    | .byte o => { s with cart := { s.cart with ram := s.cart.ram.write o v } }
    | .nibble o => { s with cart := { s.cart with ram := s.cart.ram.write o (v &&& 0x0F#8) } }
    | .clock _ => s
  | .wram k => { s with bus := { s.bus with wram := s.bus.wram.write k v } }
  | .oam k => { s with ppu := s.ppu.putOam k v }
  | .unusable => s
  | .io _ => s
  | .hram k => { s with bus := { s.bus with hram := s.bus.hram.write k v } }
  | .ie => s

/-- Storing consecutive bytes, the address wrapping. -/
def pokeList : List Byte → Word → State → State
  | [], _, s => s
  | v :: rest, addr, s => pokeList rest (addr + 1#16) (poke s addr v)

/-- A CPU whose next step fetches: running, with no interrupt to dispatch first (R280). -/
def readyToFetch (s : State) : State :=
  s.setCpu { s.cpu with mode := .running, ime := s.cpu.ime && pending s == 0#5 }

/-- No host event at the next tick boundary. -/
def withQuietBoundary (s : State) : State :=
  match s.inputs with
  | [] => s
  | _ :: rest => { s with inputs := [] :: rest }

/-- An instruction's bytes, zeros after them up to the longest instruction, stored from `pc` on. -/
def placeInstruction (s : State) (bytes : List Byte) : State :=
  withQuietBoundary (readyToFetch (pokeList (bytes ++ List.replicate (3 - bytes.length) 0#8) s.cpu.pc s))

/-! The debug surface (60_exceptions.md R307): observations that change nothing. -/

/-- The register snapshot of R307, hidden CPU state included. -/
structure DebugRegisters where
  af : Word
  bc : Word
  de : Word
  hl : Word
  sp : Word
  pc : Word
  ime : Bool
  eiPending : Bool
  mode : CpuMode
  fatalInfo : Byte × Word
  deriving DecidableEq, Repr

/-- The CPU registers and hidden state (R307). -/
def State.debugRegisters (s : State) : DebugRegisters where
  af := s.cpu.getPair .af
  bc := s.cpu.getPair .bc
  de := s.cpu.getPair .de
  hl := s.cpu.getPair .hl
  sp := s.cpu.sp
  pc := s.cpu.pc
  ime := s.cpu.ime
  eiPending := s.cpu.eiPending
  mode := s.cpu.mode
  fatalInfo := (s.cpu.fatalOp, s.cpu.fatalAddr)

/-- The 64 KiB address space as the CPU sees it (R307). -/
def State.debugByte (s : State) (addr : Word) : Byte := read8 s addr

/-- The PPU and joypad register mirrors (R307): P1, then `0xFF40` to `0xFF4B`. -/
def State.debugMirrors (s : State) : List Byte :=
  s.joypad.read :: (List.range 12).map (fun k => readPort s (0x40 + k))

end Sys2Proof.Machine
end

