-- ==== Sys2Proof/Machine/Tick.lean ====
section
/-! DEFINITION. The CPU step (60_exceptions.md R280 to R284) and the tick driver (20_memory.md R90). -/

namespace Sys2Proof.Machine

open Sys2Proof

/-- Leaving `Halted` or `Stopped` where the wake-up condition holds (R283, R284). -/
def wake (s : State) : State :=
  match s.cpu.mode with
  | .halted => if pending s = 0#5 then s else s.setCpu { s.cpu with mode := .running }
  | .stopped => if s.bus.ifReg.getLsbD 4 then s.setCpu { s.cpu with mode := .running } else s
  | .running => s
  | .fatal => s

/-- The delayed effect of `EI` (R282): `armed` is `ei_pending` before the instruction. -/
def armInterrupts (armed : Bool) (s : State) : State :=
  if s.cpu.mode ≠ .fatal ∧ armed ∧ s.cpu.eiPending then
    s.setCpu { s.cpu with ime := true, eiPending := false }
  else s

/-- Fetching, decoding and executing one whole instruction (30_encoding.md R141), with the end of R280. -/
def execute (s : State) : Result :=
  match exec (fetched s).1 (advance s (fetched s).2) with
  | .next t => .next (armInterrupts s.cpu.eiPending t)
  | .fault f => .fault f
  | .refused r => .refused r

/-- The rest of `step()` once the wake-up test is made (R280). -/
def afterWake (w : State) : Result :=
  match w.cpu.mode with
  | .running => if w.cpu.ime ∧ pending w ≠ 0#5 then .next (dispatch w) else execute w
  | .halted => .next (w.spend 4)
  | .stopped => .next (w.spend 4)
  | .fatal => .next w

/-- `step()` of R280 for a CPU not in `Fatal`: an idle period, a dispatch or an instruction. -/
def cpuStep (s : State) : Result := afterWake (wake s)

/-- `tick()` (R90): a CPU step, then the devices driven by its T-cycles. `Fatal` is terminal (46_system.md R268). -/
def tick (s : State) : Result :=
  if s.cpu.mode = .fatal then .next s
  else
    match cpuStep s with
    | .next t => .next (busCycle t.cpu.cycles t)
    | .fault f => .fault f
    | .refused r => .refused r

end Sys2Proof.Machine
end

