-- ==== Sys2Proof/Safety.lean ====
section
/-! DEFINITION. What a state of this hardware looks like: the invariants the rules state of every state, one predicate
for each owner, in the terms the statements use. -/

/-! Operand codes (30_encoding.md R131, R133, R135). -/

namespace Sys2Proof

/-- Table `r` of R131. -/
def Reg8.code : Reg8 → Nat
  | .b => 0
  | .c => 1
  | .d => 2
  | .e => 3
  | .h => 4
  | .l => 5
  | .a => 7

/-- Table `r` of R131, `(HL)` included. -/
def Operand8.code : Operand8 → Nat
  | .reg r => r.code
  | .atHL => 6

/-- Table `rp` of R131. -/
def Rp.code : Rp → Nat
  | .bc => 0
  | .de => 1
  | .hl => 2
  | .sp => 3

/-- Table `cc` of R131. -/
def Cond.code : Cond → Nat
  | .nz => 0
  | .z => 1
  | .nc => 2
  | .c => 3

/-- `alu[y]` of R133. -/
def AluOp.code : AluOp → Nat
  | .add => 0
  | .adc => 1
  | .sub => 2
  | .sbc => 3
  | .and => 4
  | .xor => 5
  | .or => 6
  | .cp => 7

/-- `rot[y]` of R135. -/
def RotOp.code : RotOp → Nat
  | .rlc => 0
  | .rrc => 1
  | .rl => 2
  | .rr => 3
  | .sla => 4
  | .sra => 5
  | .swap => 6
  | .srl => 7

end Sys2Proof

namespace Sys2Proof.Machine

open Sys2Proof

/-- The low nibble of `F` is zero (10_state.md R24). -/
def Cpu.FlagsClean (p : Cpu) : Prop := p.f &&& 0x0F#8 = 0#8

/-- A RAM array is in canonical form and lists nothing past its size. -/
def Ram.Bounded (size : Nat) (r : Ram) : Prop := Memory.wf r.cells ∧ ∀ c ∈ r.cells, c.1 < size

/-- The PPU's mode agrees with its line and dot while the LCD is on (62_ppu.md R350, R351); off, it rests at line 0,
dot 0 in `HBlank` (R352). -/
def Ppu.ModeAgrees (p : Ppu) : Prop :=
  if p.lcdc.getLsbD 7 then
    (p.mode = .vblank ↔ 144 ≤ p.ly) ∧
      (p.ly < 144 → (p.mode = .oamScan ↔ p.dot < 80) ∧ (p.mode = .hblank ↔ 252 ≤ p.dot))
  else p.ly = 0 ∧ p.dot = 0 ∧ p.mode = .hblank

/-- The PPU's invariant (62_ppu.md R340, R350 to R353). -/
def Ppu.Inv (p : Ppu) : Prop :=
  p.ly < 154 ∧ p.dot < 456 ∧ p.ModeAgrees ∧ p.lycFlag = decide (p.ly = p.lyc.toNat)

/-- The APU's counters are in range (63_apu.md R390). -/
def Apu.Inv (a : Apu) : Prop :=
  a.ch1.length ≤ 64 ∧ a.ch2.length ≤ 64 ∧ a.ch3.length ≤ 256 ∧ a.ch4.length ≤ 64 ∧
    a.ch1.env.volume ≤ 15 ∧ a.ch2.env.volume ≤ 15 ∧ a.ch4.env.volume ≤ 15 ∧
    a.ch1.env.timer ≤ 7 ∧ a.ch2.env.timer ≤ 7 ∧ a.ch4.env.timer ≤ 7 ∧ a.sweep.timer ≤ 8 ∧ a.fsAcc < 8192

/-- With the master switch off every control register is zero and no channel is on (63_apu.md R407). -/
def Apu.SilentWhenOff (a : Apu) : Prop :=
  a.master = false →
    a.nr50 = 0#8 ∧ a.nr51 = 0#8 ∧ a.ch1.enabled = false ∧ a.ch2.enabled = false ∧ a.ch3.enabled = false ∧
      a.ch4.enabled = false

/-- No bank controller holds a zero in its ROM bank field (21_cartridge.md R105, R110, R113). -/
def Mbc.BankNonzero (m : Mbc) : Prop :=
  match m with
  | .none => True
  | .mbc1 _ lo _ _ => lo ≠ 0#5
  | .mbc2 _ bank => bank ≠ 0#4
  | .mbc3 _ bank _ _ _ _ => bank ≠ 0#7

/-- Every byte store of the machine is in canonical form (`Memory.wf`). -/
def State.MemoriesCanonical (s : State) : Prop :=
  Memory.wf s.bus.wram.cells ∧ Memory.wf s.bus.hram.cells ∧ Memory.wf s.ppu.vram.cells ∧
    Memory.wf s.ppu.oam.cells ∧ Memory.wf s.apu.waveRam.cells ∧ Memory.wf s.cart.ram.cells ∧
    Memory.wf s.cart.rom

/-- A line buffer is in canonical form: visible lines only, strictly rising, each of full width and not all zero. -/
def Rows.Canonical (m : Rows) : Prop :=
  m.Pairwise (fun p q => p.1 < q.1) ∧
    ∀ e ∈ m, e.1 < Config.lcdH ∧ e.2.length = Config.lcdW ∧ e.2 ≠ List.replicate Config.lcdW 0#2

/-- The state after a list of byte stores on the bus, in order. -/
def afterStores (s : State) : List (Word × Byte) → State
  | [] => s
  | (addr, v) :: rest => afterStores (write8 s addr v) rest

/-! The vocabulary of the statements: the spec's tables and formulas, written apart from the machine. -/

/-- The states a reset leaves, power-on included (10_state.md R40). -/
def AfterReset (t : State) : Prop :=
  t = State.reset ∨ (∃ image save, State.powerOn image save = .next t) ∨ ∃ s, t = resetRequest s

/-- `F` from four flags at the positions of 10_state.md R24. -/
def flagByte (z n h c : Bool) : Byte :=
  BitVec.ofNat 8 (128 * z.toNat + 64 * n.toNat + 32 * h.toNat + 16 * c.toNat)

/-- `flag.Z` (R24). -/
def Cpu.zf (p : Cpu) : Bool := p.f.getLsbD 7

/-- `flag.N` (R24). -/
def Cpu.nf (p : Cpu) : Bool := p.f.getLsbD 6

/-- `flag.H` (R24). -/
def Cpu.hf (p : Cpu) : Bool := p.f.getLsbD 5

/-- `flag.C` (R24). -/
def Cpu.cf (p : Cpu) : Bool := p.f.getLsbD 4

/-- `cond(cc)` (45_control.md R249). -/
def Cpu.holds (p : Cpu) (cc : Cond) : Bool :=
  match cc with
  | .nz => p.zf == false
  | .z => p.zf == true
  | .nc => p.cf == false
  | .c => p.cf == true

/-- The address that the operand `(HL)` names (30_encoding.md R131). -/
def Cpu.atHL (p : Cpu) : Word := p.h ++ p.l

/-- The low byte of a word. -/
def lowByte (v : Word) : Byte := BitVec.ofNat 8 (v.toNat % 256)

/-- The high byte of a word. -/
def highByte (v : Word) : Byte := BitVec.ofNat 8 (v.toNat / 256)

/-- `sext_16` of a byte as a number (00_scope.md R8). -/
def signed (e : Byte) : Int := if e.toNat < 128 then e.toNat else (e.toNat : Int) - 256

/-- The two byte stores of `Push16(v)`: the low byte at `sp - 2`, then the high byte at `sp - 1` (00_scope.md R10). -/
def pushedBytes (s : State) (v : Word) : State :=
  write8 (write8 s (s.cpu.sp - 2#16) (lowByte v)) (s.cpu.sp - 1#16) (highByte v)

/-- The word that `Pop16()` reads (00_scope.md R10). -/
def poppedWord (s : State) : Word := read8 s (s.cpu.sp + 1#16) ++ read8 s s.cpu.sp

/-- A form of an accumulator operation (42_alu8.md R206). -/
inductive AluForm where
  | reg (r : Reg8)
  | mem
  | imm (v : Byte)
  deriving DecidableEq, Repr

/-- The instruction of a form. -/
def AluForm.instr (op : AluOp) : AluForm → Instr
  | .reg r => Instr.aluR op r
  | .mem => Instr.aluAtHL op
  | .imm v => Instr.aluImm op v

/-- Its bytes (R206): `10 yyy zzz`, `10 yyy 110` or `11 yyy 110` and the immediate. -/
def AluForm.bytes (op : AluOp) : AluForm → List Byte
  | .reg r => [BitVec.ofNat 8 (0x80 + 8 * op.code + r.code)]
  | .mem => [BitVec.ofNat 8 (0x80 + 8 * op.code + 6)]
  | .imm v => [BitVec.ofNat 8 (0xC0 + 8 * op.code + 6), v]

/-- Its right operand `v` (R206). -/
def AluForm.value (s : State) : AluForm → Byte
  | .reg r => s.cpu.get8 r
  | .mem => read8 s s.cpu.atHL
  | .imm v => v

/-- Its T-cycles (R206). -/
def AluForm.cycles : AluForm → Nat
  | .reg _ => 4
  | .mem => 8
  | .imm _ => 8

/-- Result and carry of a rotate, shift or `SWAP` of the number `v` with old carry `c` (44_rotate_bit.md R224 to R231). -/
def rotated (op : RotOp) (v c : Nat) : Nat × Nat :=
  match op with
  | .rlc => (2 * v % 256 + v / 128, v / 128)
  | .rrc => (v / 2 + 128 * (v % 2), v % 2)
  | .rl => (2 * v % 256 + c, v / 128)
  | .rr => (v / 2 + 128 * c, v % 2)
  | .sla => (2 * v % 256, v / 128)
  | .sra => (v / 2 + 128 * (v / 128), v % 2)
  | .swap => (16 * v % 256 + v / 16, 0)
  | .srl => (v / 2, v % 2)

/-- The accumulator and carry that `DAA` leaves, for the number `a` and the flags `n`, `h`, `c` (42_alu8.md R202). -/
def daaResult (a : Nat) (n h c : Bool) : Nat × Bool :=
  if n then ((a + 512 - (if c then 0x60 else 0) - (if h then 0x06 else 0)) % 256, c)
  else
    ((a + (if c ∨ 0x99 < a then 0x60 else 0) + (if h ∨ 0x09 < a % 16 then 0x06 else 0)) % 256,
     c || decide (0x99 < a))

/-! What an instruction may change, from its opcode bytes. -/

/-- The primary opcode byte of an instruction, as a number. -/
def opcodeOf (i : Instr) : Nat := ((encode i).headD 0#8).toNat

/-- The extended opcode byte, as a number: the byte after the prefix. The prefix alone takes it from memory. -/
def opcode2Of (i : Instr) (s : State) : Nat :=
  match i with
  | .prefixCB => (read8 s s.cpu.pc).toNat
  | _ => ((encode i).getD 1 0#8).toNat

/-- What becomes of one flag (the letters of 10_state.md R26). -/
inductive FlagUse where
  /-- `r` -/
  | result
  /-- `0` -/
  | zero
  /-- `1` -/
  | one
  /-- `-` -/
  | keep
  deriving DecidableEq, Repr

/-- Whether a flag that was `old` and is `new` was treated so. -/
def FlagUse.agrees (u : FlagUse) (old new : Bool) : Prop :=
  match u with
  | .result => True
  | .zero => new = false
  | .one => new = true
  | .keep => new = old

/-- A row of the table of R26, in the order `Z N H C`. -/
structure FlagRow where
  z : FlagUse
  n : FlagUse
  h : FlagUse
  c : FlagUse
  deriving DecidableEq, Repr

/-- The row of an accumulator operation by its code `y` (R26). -/
def aluFlagRow (y : Nat) : FlagRow :=
  if y = 0 ∨ y = 1 then ⟨.result, .zero, .result, .result⟩
  else if y = 4 then ⟨.result, .zero, .one, .zero⟩
  else if y = 5 ∨ y = 6 then ⟨.result, .zero, .zero, .zero⟩
  else ⟨.result, .one, .result, .result⟩

/-- The table of R26, by opcode byte and extended opcode byte. -/
def flagRow (op op2 : Nat) : FlagRow :=
  if op = 0xCB then
    if op2 / 64 = 0 then
      if op2 / 8 = 6 then ⟨.result, .zero, .zero, .zero⟩ else ⟨.result, .zero, .zero, .result⟩
    else if op2 / 64 = 1 then ⟨.result, .zero, .one, .keep⟩
    else ⟨.keep, .keep, .keep, .keep⟩
  else if op / 64 = 2 ∨ (op / 64 = 3 ∧ op % 8 = 6) then aluFlagRow (op / 8 % 8)
  else if op / 64 = 0 ∧ op % 8 = 4 then ⟨.result, .zero, .result, .keep⟩
  else if op / 64 = 0 ∧ op % 8 = 5 then ⟨.result, .one, .result, .keep⟩
  else if op = 0x27 then ⟨.result, .keep, .zero, .result⟩
  else if op = 0x2F then ⟨.keep, .one, .one, .keep⟩
  else if op = 0x37 then ⟨.keep, .zero, .zero, .one⟩
  else if op = 0x3F then ⟨.keep, .zero, .zero, .result⟩
  else if op / 64 = 0 ∧ op % 16 = 9 then ⟨.keep, .zero, .result, .result⟩
  else if op = 0xE8 ∨ op = 0xF8 then ⟨.zero, .zero, .result, .result⟩
  else if op / 64 = 0 ∧ op % 8 = 7 then ⟨.zero, .zero, .zero, .result⟩
  else if op = 0xF1 then ⟨.result, .result, .result, .result⟩
  else ⟨.keep, .keep, .keep, .keep⟩

/-- The registers of code `n` in table `r` (30_encoding.md R131): none for `(HL)`. -/
def regsOf (n : Nat) : List Reg8 :=
  if n = 0 then [.b] else if n = 1 then [.c] else if n = 2 then [.d] else if n = 3 then [.e]
  else if n = 4 then [.h] else if n = 5 then [.l] else if n = 7 then [.a] else []

/-- The 8-bit registers of code `p` in table `rp` (R131): none for `SP`. -/
def pairRegsOf (p : Nat) : List Reg8 :=
  if p = 0 then [.b, .c] else if p = 1 then [.d, .e] else if p = 2 then [.h, .l] else []

/-- The 8-bit registers an instruction may write, by opcode byte and extended opcode byte (R133, R135). -/
def writtenRegs (op op2 : Nat) : List Reg8 :=
  if op = 0xCB then if op2 / 64 = 1 then [] else regsOf (op2 % 8)
  else if op / 64 = 0 then
    if op % 8 = 1 then if op / 8 % 2 = 0 then pairRegsOf (op / 16) else [.h, .l]
    else if op % 8 = 2 then
      if op = 0x0A ∨ op = 0x1A then [.a] else if op = 0x22 ∨ op = 0x32 then [.h, .l]
      else if op = 0x2A ∨ op = 0x3A then [.a, .h, .l] else []
    else if op % 8 = 3 then pairRegsOf (op / 16)
    else if op % 8 = 4 ∨ op % 8 = 5 ∨ op % 8 = 6 then regsOf (op / 8)
    else if op % 8 = 7 ∧ op ≤ 0x2F then [.a]
    else []
  else if op / 64 = 1 then if op = 0x76 then [] else regsOf (op / 8 % 8)
  else if op / 64 = 2 then if op / 8 % 8 = 7 then [] else [.a]
  else if op % 8 = 6 then if op = 0xFE then [] else [.a]
  else if op % 16 = 1 then if op = 0xF1 then [.a] else pairRegsOf (op / 16 % 4)
  else if op = 0xF0 ∨ op = 0xF2 ∨ op = 0xFA then [.a]
  else if op = 0xF8 then [.h, .l]
  else []

/-- The opcode bytes whose instructions may write `SP` (10_state.md R22). -/
def writesSp (op : Nat) : Bool :=
  [0x31, 0x33, 0x3B, 0xE8, 0xF9, 0xC1, 0xD1, 0xE1, 0xF1, 0xC5, 0xD5, 0xE5, 0xF5, 0xCD, 0xC4, 0xCC, 0xD4, 0xDC,
   0xC9, 0xD9, 0xC0, 0xC8, 0xD0, 0xD8, 0xC7, 0xCF, 0xD7, 0xDF, 0xE7, 0xEF, 0xF7, 0xFF].contains op

/-- The operand word of a 3-byte instruction (30_encoding.md R136). -/
def operandWordOf (i : Instr) : Word := (encode i).getD 2 0#8 ++ (encode i).getD 1 0#8

/-- The two addresses a push stores to, in order (00_scope.md R10). -/
def pushAddrs (s : State) : List Word := [s.cpu.sp - 2#16, s.cpu.sp - 1#16]

/-- The addresses an instruction stores a byte to, in order, in the state after its fetch. -/
def storeAddrs (i : Instr) (s : State) : List Word :=
  let op := opcodeOf i
  if op = 0xCB then
    if opcode2Of i s % 8 = 6 ∧ opcode2Of i s / 64 ≠ 1 then [s.cpu.atHL] else []
  else if op = 0x02 then [s.cpu.b ++ s.cpu.c]
  else if op = 0x12 then [s.cpu.d ++ s.cpu.e]
  else if op = 0x22 ∨ op = 0x32 ∨ op = 0x34 ∨ op = 0x35 ∨ op = 0x36 then [s.cpu.atHL]
  else if op = 0x08 then [operandWordOf i, operandWordOf i + 1#16]
  else if op / 8 = 0x0E ∧ op ≠ 0x76 then [s.cpu.atHL]
  else if op = 0xE0 then [0xFF#8 ++ (encode i).getD 1 0#8]
  else if op = 0xE2 then [0xFF#8 ++ s.cpu.c]
  else if op = 0xEA then [operandWordOf i]
  else if op = 0xC5 ∨ op = 0xD5 ∨ op = 0xE5 ∨ op = 0xF5 then pushAddrs s
  else if op = 0xCD then pushAddrs s
  else if op = 0xC4 then if s.cpu.holds .nz then pushAddrs s else []
  else if op = 0xCC then if s.cpu.holds .z then pushAddrs s else []
  else if op = 0xD4 then if s.cpu.holds .nc then pushAddrs s else []
  else if op = 0xDC then if s.cpu.holds .c then pushAddrs s else []
  else if op / 64 = 3 ∧ op % 8 = 7 then pushAddrs s
  else []

/-- Whether an address lies in a range, its end excluded. -/
def within (lo hi : Nat) (a : Word) : Bool := decide (lo ≤ a.toNat) && decide (a.toNat < hi)

/-- Whether a byte stored at address `a` can change what address `b` reads (20_memory.md R63, R79): itself; the
switchable ROM bank and external RAM for a cartridge register; both names of a work RAM byte; TIMA for DIV and TAC; any
sound register for another; STAT, LY, VRAM and OAM for LCDC; STAT for LYC; OAM for the DMA register. -/
def touches (a b : Word) : Bool :=
  if within 0x0000 0x8000 a then within 0x4000 0x8000 b || within 0xA000 0xC000 b
  else if within 0xA000 0xC000 a then within 0xA000 0xC000 b
  else if within 0xC000 0xFE00 a then within 0xC000 0xFE00 b && decide (a.toNat % 0x2000 = b.toNat % 0x2000)
  else if a = 0xFF04#16 then b == 0xFF04#16 || b == 0xFF05#16
  else if a = 0xFF07#16 then b == 0xFF05#16 || b == 0xFF07#16
  else if within 0xFF10 0xFF40 a then within 0xFF10 0xFF40 b
  else if a = 0xFF40#16 then
    b == 0xFF40#16 || b == 0xFF41#16 || b == 0xFF44#16 || within 0x8000 0xA000 b || within 0xFE00 0xFEA0 b
  else if a = 0xFF45#16 then b == 0xFF41#16 || b == 0xFF45#16
  else if a = 0xFF46#16 then b == 0xFF46#16 || within 0xFE00 0xFEA0 b
  else b == a

/-! Devices. -/

/-- The divider bit of a select value (61_timer.md R321). -/
def selectedBit (sel : Nat) : Nat := if sel = 0 then 9 else if sel = 1 then 3 else if sel = 2 then 5 else 7

/-- The watched signal (R321). -/
def watched (tac : BitVec 3) (div : Word) : Bool :=
  decide (4 ≤ tac.toNat) && decide (div.toNat / 2 ^ selectedBit (tac.toNat % 4) % 2 = 1)

/-- `tima_increment()` (R327) if `fell` holds. -/
def bumpIf (fell : Bool) (t : Timer) : Timer :=
  if fell = false then t
  else if t.tima.toNat = 255 then { t with tima := t.tma, intMask := t.intMask ||| 4#5 }
  else { t with tima := BitVec.ofNat 8 (t.tima.toNat + 1) }

/-- The position of the PPU in its frame of 70224 dots (62_ppu.md R351). -/
def Ppu.position (p : Ppu) : Nat := 456 * p.ly + p.dot

/-- The background or window colour index at column `x` of line `y` (62_ppu.md R361 to R363). -/
def bgIndex (p : Ppu) (y x : Nat) : Nat :=
  let win := p.lcdc.getLsbD 5 && decide (p.wy.toNat ≤ y) && decide (p.wx.toNat ≤ x + 7)
  let px := if win then x + 7 - p.wx.toNat else (x + p.scx.toNat) % 256
  let py := if win then y - p.wy.toNat else (y + p.scy.toNat) % 256
  let map := if (if win then p.lcdc.getLsbD 6 else p.lcdc.getLsbD 3) then 0x9C00 else 0x9800
  let id := (p.vram.read .vram (map - 0x8000 + 32 * (py / 8) + px / 8)).toNat
  let tile := if p.lcdc.getLsbD 4 then 0x8000 + 16 * id else 0x8800 + 16 * ((id + 128) % 256)
  let lo := (p.vram.read .vram (tile - 0x8000 + 2 * (py % 8))).toNat
  let hi := (p.vram.read .vram (tile - 0x8000 + 2 * (py % 8) + 1)).toNat
  2 * (hi / 2 ^ (7 - px % 8) % 2) + lo / 2 ^ (7 - px % 8) % 2

/-- The shade of colour index `c` in palette `pal` (62_ppu.md R346). -/
def shadeOf (pal : Byte) (c : Nat) : BitVec 2 := BitVec.ofNat 2 (pal.toNat / 4 ^ c)

/-- The first ten sprites that overlap line `y`, in OAM order (62_ppu.md R366). -/
def selectedSprites (p : Ppu) (y : Nat) : List Nat :=
  if p.lcdc.getLsbD 1 then
    ((List.range 40).filter (fun i =>
      let top : Int := (p.oam.read .oam (4 * i)).toNat - 16
      decide (top ≤ y ∧ (y : Int) < top + (if p.lcdc.getLsbD 2 then 16 else 8)))).take 10
  else []

/-- The shade that sprite `i` draws at column `x` of line `y` over background index `c`, if it draws there (R368). -/
def spriteShade (p : Ppu) (y x c i : Nat) : Option (BitVec 2) :=
  let top : Int := (p.oam.read .oam (4 * i)).toNat - 16
  let left : Int := (p.oam.read .oam (4 * i + 1)).toNat - 8
  let t := (p.oam.read .oam (4 * i + 2)).toNat
  let attr := p.oam.read .oam (4 * i + 3)
  let h : Int := if p.lcdc.getLsbD 2 then 16 else 8
  let r : Int := if attr.getLsbD 6 then h - 1 - (y - top) else y - top
  let tile := if p.lcdc.getLsbD 2 then 2 * (t / 2) else t
  let lo := (p.vram.read .vram (16 * tile + 2 * r.toNat)).toNat
  let hi := (p.vram.read .vram (16 * tile + 2 * r.toNat + 1)).toNat
  if left ≤ x ∧ (x : Int) < left + 8 then
    let k := ((x : Int) - left).toNat
    let b := if attr.getLsbD 5 then k else 7 - k
    let idx := 2 * (hi / 2 ^ b % 2) + lo / 2 ^ b % 2
    if idx = 0 then none
    else if attr.getLsbD 7 ∧ c ≠ 0 then none
    else some (shadeOf (if attr.getLsbD 4 then p.obp1 else p.obp0) idx)
  else none

/-- Each device's mask holds only the bits of the sources it raises (60_exceptions.md R286). -/
def State.MasksInRange (s : State) : Prop :=
  s.timer.intMask &&& ~~~0b00100#5 = 0#5 ∧ s.ppu.intMask &&& ~~~0b00011#5 = 0#5 ∧
    s.joypad.intMask &&& ~~~0b10000#5 = 0#5

end Sys2Proof.Machine
end

