-- ==== Sys2Proof/Certificates/Slice0/Obligations.lean ====
section
/-! DEFINITION. The statements for the provers. In a statement about `exec i s`, `s` is the state after the fetch: `pc` is
past the instruction (10_state.md R23), which `StepRunsDecoded` says of a step. -/

open Sys2Proof Sys2Proof.Machine

/-! Reset. -/

/-- The CPU, `IF` and `IE` after power-on and after a reset request (R40). -/
def Obligations.ResetCpu : Prop :=
  ∀ t : State, AfterReset t →
    t.cpu.a = 0x01#8 ∧ t.cpu.f = 0xB0#8 ∧ t.cpu.b = 0x00#8 ∧ t.cpu.c = 0x13#8 ∧ t.cpu.d = 0x00#8 ∧
      t.cpu.e = 0xD8#8 ∧ t.cpu.h = 0x01#8 ∧ t.cpu.l = 0x4D#8 ∧ t.cpu.sp = 0xFFFE#16 ∧ t.cpu.pc = 0x0100#16 ∧
      t.cpu.ime = false ∧ t.cpu.eiPending = false ∧ t.cpu.mode = .running ∧ t.bus.ifReg = 0b00001#5 ∧
      read8 t 0xFF0F#16 = 0xE1#8 ∧ t.bus.ie = 0x00#8

/-- The devices, the DMA register and the cartridge registers after any reset (R41, R120). -/
def Obligations.ResetDevices : Prop :=
  ∀ t : State, AfterReset t →
    (t.timer.div16 = 0xABCC#16 ∧ t.timer.tima = 0#8 ∧ t.timer.tma = 0#8 ∧ t.timer.tac = 0#3) ∧
    (t.timer.intMask = 0#5 ∧ t.ppu.intMask = 0#5 ∧ t.joypad.intMask = 0#5) ∧
    (t.ppu.lcdc = 0x91#8 ∧ t.ppu.ly = 0 ∧ t.ppu.dot = 0 ∧ t.ppu.mode = .oamScan ∧ t.ppu.statSel = 0#4 ∧
      t.ppu.lycFlag = true ∧ t.ppu.scy = 0#8 ∧ t.ppu.scx = 0#8 ∧ t.ppu.lyc = 0#8 ∧ t.ppu.wy = 0#8 ∧
      t.ppu.wx = 0#8 ∧ t.ppu.bgp = 0xFC#8 ∧ t.ppu.obp0 = 0xFF#8 ∧ t.ppu.obp1 = 0xFF#8 ∧
      t.ppu.frameReady = false) ∧
    (∀ x y, x < 160 → y < 144 → t.ppu.pixel x y = Config.palette 0#2 ∧ (t.ppu.ci.row y).pixel x = 0#2) ∧
    (t.joypad.buttons = ⟨false, false, false, false, false, false, false, false⟩ ∧ t.joypad.select = 0#2) ∧
    (t.apu.master = true ∧ t.apu.nr50 = 0x77#8 ∧ t.apu.nr51 = 0xF3#8 ∧ t.apu.fsAcc = 0 ∧ t.apu.fsPhase = 0#3 ∧
      t.apu.ch1 = ⟨false, 0, false, 0, 0#11, 2#2, 0#3, ⟨15#4, false, 3#3, 0, 0, false⟩⟩ ∧
      t.apu.sweep = ⟨0#3, false, 0#3, 0#11, 0, false⟩ ∧
      t.apu.ch2 = ⟨false, 0, false, 0, 0#11, 0#2, 0#3, ⟨0#4, false, 0#3, 0, 0, false⟩⟩ ∧
      t.apu.ch3 = ⟨false, 0, false, 0, 0#11, false, 0#2, 0#5⟩ ∧
      t.apu.ch4 = ⟨false, 0, false, 0, ⟨0#4, false, 0#3, 0, 0, false⟩, 0#4, false, 0#3, 0x7FFF#15⟩ ∧
      t.apu.rsL = 0 ∧ t.apu.rsR = 0 ∧ t.apu.rsN = 0 ∧ t.apu.rsPhase = 0 ∧ t.apu.batch = []) ∧
    t.bus.dmaReg = 0xFF#8 ∧
    (match t.cart.mbc with
      | .none => True
      | .mbc1 en lo hi mode => en = false ∧ lo = 1#5 ∧ hi = 0#2 ∧ mode = false
      | .mbc2 en bank => en = false ∧ bank = 1#4
      | .mbc3 en bank sel prev _ _ => en = false ∧ bank = 1#7 ∧ sel = 0x00#8 ∧ prev = 0xFF#8)

/-- What a reset request keeps of the cartridge, and the registers it reinitialises (R120). -/
def Obligations.ResetKeepsCartridge : Prop :=
  ∀ s : State,
    (applyEvent s .reset).cart.rom = s.cart.rom ∧ (applyEvent s .reset).cart.romLen = s.cart.romLen ∧
    (applyEvent s .reset).cart.ram = s.cart.ram ∧ (applyEvent s .reset).cart.ramLen = s.cart.ramLen ∧
    (applyEvent s .reset).cart.dirty = s.cart.dirty ∧
    (applyEvent s .reset).cart.mbc =
      (match s.cart.mbc with
        | .none => .none
        | .mbc1 _ _ _ _ => .mbc1 false 1#5 0#2 false
        | .mbc2 _ _ => .mbc2 false 1#4
        | .mbc3 _ _ _ _ rtc latched => .mbc3 false 1#7 0x00#8 0xFF#8 rtc latched)

/-! Encoding. -/

/-- A few words of each family, written out from the grids of R134 and R135. -/
def Obligations.DecodeWords : Prop :=
  decode [0x01#8, 0x34#8, 0x12#8] = .ok (.ld_BC_d16 0x1234#16, 3) ∧
    decode [0x41#8] = .ok (.ld_B_C, 1) ∧ decode [0x9C#8] = .ok (.sbc_A_H, 1) ∧
    decode [0xFE#8, 0x40#8] = .ok (.cp_d8 0x40#8, 2) ∧ decode [0x29#8] = .ok (.add_HL_HL, 1) ∧
    decode [0x76#8] = .ok (.halt, 1) ∧ decode [0xF1#8] = .ok (.pop_AF, 1) ∧
    decode [0xE0#8, 0x46#8] = .ok (.ldh_atA8_A 0x46#8, 2) ∧
    decode [0xDC#8, 0x00#8, 0x02#8] = .ok (.call_C_a16 0x0200#16, 3) ∧
    decode [0xEF#8] = .ok (.rst_28, 1) ∧ decode [0xCB#8, 0x7C#8] = .ok (.bit_7_H, 2) ∧
    decode [0xCB#8, 0xCB#8] = .ok (.set_1_E, 2) ∧ decode [0x10#8, 0xD3#8] = .ok (.stop 0xD3#8, 2) ∧
    decode [0xDD#8] = .ok (.undefined 0xDD#8, 1)

/-- Decoding the bytes of a well-formed instruction, whatever follows them, gives the instruction and its length. The
prefix byte is an instruction of its own only where no byte follows it (log entry 5). -/
def Obligations.DecodeOfEncode : Prop :=
  (∀ (i : Instr) (rest : List Byte), i.wellFormed = true → i ≠ .prefixCB →
    decode (encode i ++ rest) = .ok (i, (encode i).length)) ∧
  decode (encode .prefixCB) = .ok (.prefixCB, 1)

/-- What the decoder reads at an address is well-formed and its encoding is the bytes read; its length is the function
of the first byte that R137 gives. -/
def Obligations.EncodeOfDecode : Prop :=
  ∀ (b0 b1 b2 : Byte) (i : Instr) (n : Nat), decodeWindow b0 b1 b2 = (i, n) →
    i.wellFormed = true ∧ encode i = [b0, b1, b2].take n ∧
      (let x := b0.toNat / 64
       let y := b0.toNat / 8 % 8
       let z := b0.toNat % 8
       let q := b0.toNat / 8 % 2
       n = if (x = 0 ∧ z = 1 ∧ q = 0) ∨ b0 = 0x08#8 ∨ (x = 3 ∧ z = 2 ∧ y ≠ 4 ∧ y ≠ 6) ∨ b0 = 0xC3#8 ∨
              (x = 3 ∧ z = 4 ∧ y ≤ 3) ∨ b0 = 0xCD#8 then 3
           else if (x = 0 ∧ z = 6) ∨ (x = 0 ∧ z = 0 ∧ 2 ≤ y) ∨ (x = 3 ∧ z = 6) ∨ b0 = 0xE0#8 ∨ b0 = 0xE8#8 ∨
              b0 = 0xF0#8 ∨ b0 = 0xF8#8 ∨ b0 = 0xCB#8 then 2
           else 1)

/-- The byte after the prefix selects by its fields `x`, `y`, `z` (30_encoding.md R135), and the prefix fetches that byte
and runs what it selects (46_system.md R266). That the prefix alone is a constructor, `.prefixCB`, which the second and
third clauses are about, is the model's choice (log entry 5). -/
def Obligations.ExtendedTable : Prop :=
  (∀ (o : Operand8) (b2 : Byte),
    (∀ op : RotOp, decodeWindow 0xCB#8 (BitVec.ofNat 8 (8 * op.code + o.code)) b2 = (Instr.rot op o, 2)) ∧
    (∀ b : Oct, decodeWindow 0xCB#8 (BitVec.ofNat 8 (0x40 + 8 * b.toNat + o.code)) b2 = (Instr.bit b o, 2)) ∧
    (∀ b : Oct, decodeWindow 0xCB#8 (BitVec.ofNat 8 (0x80 + 8 * b.toNat + o.code)) b2 = (Instr.res b o, 2)) ∧
    (∀ b : Oct, decodeWindow 0xCB#8 (BitVec.ofNat 8 (0xC0 + 8 * b.toNat + o.code)) b2 = (Instr.set b o, 2))) ∧
  (∀ s : State,
    exec .prefixCB s =
      exec (decodeWindow 0xCB#8 (read8 s s.cpu.pc) 0x00#8).1 (s.setCpu { s.cpu with pc := s.cpu.pc + 1#16 })) ∧
  (∀ s : State, ∃ t, exec .prefixCB s = .next t)

/-! The step. -/

/-- A running CPU with no interrupt to dispatch executes the instruction its bytes at `pc` decode to, `pc` past them;
then a delayed `EI` takes effect (R282), and the devices run for the T-cycles it took. -/
def Obligations.StepRunsDecoded : Prop :=
  ∀ (s : State) (i : Instr) (n : Nat),
    (deliver s).cpu.mode = .running →
    ((deliver s).cpu.ime = false ∨ (deliver s).bus.ie.extractLsb' 0 5 &&& (deliver s).bus.ifReg = 0#5) →
    decode [read8 (deliver s) (deliver s).cpu.pc, read8 (deliver s) ((deliver s).cpu.pc + 1#16),
      read8 (deliver s) ((deliver s).cpu.pc + 2#16)] = .ok (i, n) →
    ∃ t u,
      exec i ((deliver s).setCpu { (deliver s).cpu with pc := (deliver s).cpu.pc + BitVec.ofNat 16 n }) = .next t ∧
      u = (if (deliver s).cpu.eiPending = true ∧ t.cpu.eiPending = true ∧ t.cpu.mode ≠ .fatal then
            t.setCpu { t.cpu with ime := true, eiPending := false }
          else t) ∧
      step s = .next (busCycle u.cpu.cycles u)

/-- Every step answers a next state, the CPU's part of it takes at most 24 T-cycles, and the audio output only grows. -/
def Obligations.StepCompletes : Prop :=
  ∀ s : State, ∃ t, step s = .next t ∧ s.apu.pushed <+: t.apu.pushed ∧
    ((deliver s).cpu.mode = .fatal ∨ ∃ u, t = busCycle u.cpu.cycles u ∧ u.cpu.cycles ≤ 24)

/-- The end of a tick: the devices advance, then their masks are ORed into `IF` and cleared (R91). -/
def Obligations.TickAggregates : Prop :=
  ∀ (s d : State) (n : Nat), 0 < n →
    d = { s with timer := s.timer.cycle n, ppu := s.ppu.cycle n, apu := s.apu.cycle Config.audio s.sinkPending n } →
    (busCycle n s).bus = { s.bus with ifReg := s.bus.ifReg ||| d.timer.intMask ||| d.ppu.intMask ||| s.joypad.intMask } ∧
      (busCycle n s).timer = { d.timer with intMask := 0#5 } ∧ (busCycle n s).ppu = { d.ppu with intMask := 0#5 } ∧
      (busCycle n s).joypad = { s.joypad with intMask := 0#5 } ∧ (busCycle n s).apu = d.apu ∧
      (busCycle n s).cpu = s.cpu ∧ (busCycle n s).cart = s.cart

/-- Interrupt dispatch: with `IME` set and an enabled source pending, the step takes the least such source instead of
fetching (R281, R285, R287). -/
def Obligations.InterruptDispatch : Prop :=
  ∀ (s : State) (i : Nat),
    (deliver s).cpu.mode = .running → (deliver s).cpu.ime = true → i < 5 →
    ((deliver s).bus.ie.getLsbD i && (deliver s).bus.ifReg.getLsbD i) = true →
    (∀ j, j < i → ((deliver s).bus.ie.getLsbD j && (deliver s).bus.ifReg.getLsbD j) = false) →
    ∃ w t : State,
      w = pushedBytes (deliver s) (deliver s).cpu.pc ∧
      t.cpu = { (deliver s).cpu with
        sp := (deliver s).cpu.sp - 2#16, pc := BitVec.ofNat 16 (0x0040 + 8 * i), ime := false, eiPending := false,
        cycles := 20 } ∧
      (∀ k, t.bus.ifReg.getLsbD k = (w.bus.ifReg.getLsbD k && decide (k ≠ i))) ∧
      t.bus = { w.bus with ifReg := t.bus.ifReg } ∧ t = { w with cpu := t.cpu, bus := t.bus } ∧
      step s = .next (busCycle 20 t)

/-- The halted and the stopped step: an idle period of 4 T-cycles, or a step as if running (R283, R284). -/
def Obligations.SuspendedStep : Prop :=
  ∀ s : State,
    ((deliver s).cpu.mode = .halted →
      ((deliver s).bus.ie.extractLsb' 0 5 &&& (deliver s).bus.ifReg = 0#5 →
        step s = .next (busCycle 4 ((deliver s).setCpu { (deliver s).cpu with cycles := 4 }))) ∧
      ((deliver s).bus.ie.extractLsb' 0 5 &&& (deliver s).bus.ifReg ≠ 0#5 →
        step s = tick ((deliver s).setCpu { (deliver s).cpu with mode := .running }))) ∧
    ((deliver s).cpu.mode = .stopped →
      ((deliver s).bus.ifReg.getLsbD 4 = false →
        step s = .next (busCycle 4 ((deliver s).setCpu { (deliver s).cpu with cycles := 4 }))) ∧
      ((deliver s).bus.ifReg.getLsbD 4 = true →
        step s = tick ((deliver s).setCpu { (deliver s).cpu with mode := .running })))

/-- The eleven unassigned bytes raise `FatalDecode`, which changes nothing else and advances no device; only a reset
leaves `Fatal` (R138, R268). The step still answers a next state (log entry 9). -/
def Obligations.FatalDecode : Prop :=
  (∀ b0 b1 b2 : Byte,
    (decodeWindow b0 b1 b2 = (.undefined b0, 1)) ↔
      (b0 = 0xD3#8 ∨ b0 = 0xDB#8 ∨ b0 = 0xDD#8 ∨ b0 = 0xE3#8 ∨ b0 = 0xE4#8 ∨ b0 = 0xEB#8 ∨ b0 = 0xEC#8 ∨
        b0 = 0xED#8 ∨ b0 = 0xF4#8 ∨ b0 = 0xFC#8 ∨ b0 = 0xFD#8)) ∧
  (∀ (op : Byte) (s : State),
    exec (.undefined op) s =
      .next (s.setCpu { s.cpu with mode := .fatal, fatalOp := op, fatalAddr := s.cpu.pc - 1#16, cycles := 0 })) ∧
  (∀ s : State,
    (deliver s).cpu.mode = .running →
    ((deliver s).cpu.ime = false ∨ (deliver s).bus.ie.extractLsb' 0 5 &&& (deliver s).bus.ifReg = 0#5) →
    undefinedBytes.contains (read8 (deliver s) (deliver s).cpu.pc) = true →
    ∃ t, step s = .next t ∧
      t.cpu = { (deliver s).cpu with
        mode := .fatal, fatalOp := read8 (deliver s) (deliver s).cpu.pc, fatalAddr := (deliver s).cpu.pc,
        pc := (deliver s).cpu.pc + 1#16, cycles := 0 } ∧
      t.timer = { (deliver s).timer with intMask := t.timer.intMask } ∧
      t.ppu = { (deliver s).ppu with intMask := t.ppu.intMask } ∧
      t.joypad = { (deliver s).joypad with intMask := t.joypad.intMask } ∧
      t.bus = { (deliver s).bus with ifReg := t.bus.ifReg } ∧
      t.apu = (deliver s).apu ∧ t.cart = (deliver s).cart) ∧
  (∀ s : State, (deliver s).cpu.mode = .fatal → step s = .next (deliver s)) ∧
  (∀ s : State, s.cpu.mode = .fatal → (∀ events rest, s.inputs = events :: rest → HostEvent.reset ∉ events) →
    ∃ t, step s = .next t ∧ t.cpu = s.cpu ∧ t.bus = s.bus ∧ t.timer = s.timer ∧ t.apu = s.apu) ∧
  (∀ (s : State) (events : List HostEvent) (rest : List (List HostEvent)),
    s.inputs = events :: rest → HostEvent.reset ∈ events → (deliver s).cpu.mode = .running)

/-! The register file. -/

/-- The pairs alias the eight registers: the first letter is the high byte (R21). -/
def Obligations.RegisterPairs : Prop :=
  ∀ (p : Cpu) (v : Word),
    (p.getPair .af = p.a ++ p.f ∧ p.getPair .bc = p.b ++ p.c ∧ p.getPair .de = p.d ++ p.e ∧
      p.getPair .hl = p.h ++ p.l) ∧
    p.setPair .bc v = { p with b := highByte v, c := lowByte v } ∧
    p.setPair .de v = { p with d := highByte v, e := lowByte v } ∧
    p.setPair .hl v = { p with h := highByte v, l := lowByte v } ∧
    p.setPair .af v = { p with a := highByte v, f := lowByte v &&& 0xF0#8 } ∧
    (p.setPair .bc v).getPair .bc = v ∧ (p.setPair .de v).getPair .de = v ∧ (p.setPair .hl v).getPair .hl = v ∧
    (∀ (r q : Reg8) (x : Byte), (p.set8 r x).get8 q = if q = r then x else p.get8 q)

/-! 8-bit loads. -/

/-- `LD r,r'` and `LD r,d8` (R160, R161). -/
def Obligations.LoadRegister : Prop :=
  (∀ (r q : Reg8) (s : State),
    encode (Instr.ldRR r q) = [BitVec.ofNat 8 (0x40 + 8 * r.code + q.code)] ∧
    exec (Instr.ldRR r q) s = .next (s.setCpu { s.cpu.set8 r (s.cpu.get8 q) with cycles := 4 })) ∧
  (∀ (r : Reg8) (v : Byte) (s : State),
    encode (Instr.ldRImm r v) = [BitVec.ofNat 8 (0x06 + 8 * r.code), v] ∧
    exec (Instr.ldRImm r v) s = .next (s.setCpu { s.cpu.set8 r v with cycles := 8 }))

/-- The loads from memory (R162, R165, R166, R169, R172, R174). -/
def Obligations.LoadFromMemory : Prop :=
  ∀ s : State,
    (∀ r : Reg8, encode (Instr.ldRAtHL r) = [BitVec.ofNat 8 (0x46 + 8 * r.code)] ∧
      exec (Instr.ldRAtHL r) s = .next (s.setCpu { s.cpu.set8 r (read8 s (s.cpu.h ++ s.cpu.l)) with cycles := 8 })) ∧
    (encode .ld_A_atBC = [0x0A#8] ∧
      exec .ld_A_atBC s = .next (s.setCpu { s.cpu with a := read8 s (s.cpu.b ++ s.cpu.c), cycles := 8 })) ∧
    (encode .ld_A_atDE = [0x1A#8] ∧
      exec .ld_A_atDE s = .next (s.setCpu { s.cpu with a := read8 s (s.cpu.d ++ s.cpu.e), cycles := 8 })) ∧
    (∀ a : Word, encode (.ld_A_atA16 a) = [0xFA#8, lowByte a, highByte a] ∧
      exec (.ld_A_atA16 a) s = .next (s.setCpu { s.cpu with a := read8 s a, cycles := 16 })) ∧
    (∀ o : Byte, encode (.ldh_A_atA8 o) = [0xF0#8, o] ∧
      exec (.ldh_A_atA8 o) s =
        .next (s.setCpu { s.cpu with a := read8 s (BitVec.ofNat 16 (0xFF00 + o.toNat)), cycles := 12 })) ∧
    (encode .ld_A_atC = [0xF2#8] ∧
      exec .ld_A_atC s =
        .next (s.setCpu { s.cpu with a := read8 s (BitVec.ofNat 16 (0xFF00 + s.cpu.c.toNat)), cycles := 8 }))

/-- The stores to memory (R163, R164, R167, R168, R170, R173, R175). -/
def Obligations.StoreToMemory : Prop :=
  ∀ s : State,
    (∀ r : Reg8, encode (Instr.ldAtHLR r) = [BitVec.ofNat 8 (0x70 + r.code)] ∧
      exec (Instr.ldAtHLR r) s =
        .next ((write8 s (s.cpu.h ++ s.cpu.l) (s.cpu.get8 r)).setCpu { s.cpu with cycles := 8 })) ∧
    (∀ v : Byte, encode (.ld_atHL_d8 v) = [0x36#8, v] ∧
      exec (.ld_atHL_d8 v) s = .next ((write8 s (s.cpu.h ++ s.cpu.l) v).setCpu { s.cpu with cycles := 12 })) ∧
    (encode .ld_atBC_A = [0x02#8] ∧
      exec .ld_atBC_A s = .next ((write8 s (s.cpu.b ++ s.cpu.c) s.cpu.a).setCpu { s.cpu with cycles := 8 })) ∧
    (encode .ld_atDE_A = [0x12#8] ∧
      exec .ld_atDE_A s = .next ((write8 s (s.cpu.d ++ s.cpu.e) s.cpu.a).setCpu { s.cpu with cycles := 8 })) ∧
    (∀ a : Word, encode (.ld_atA16_A a) = [0xEA#8, lowByte a, highByte a] ∧
      exec (.ld_atA16_A a) s = .next ((write8 s a s.cpu.a).setCpu { s.cpu with cycles := 16 })) ∧
    (∀ o : Byte, encode (.ldh_atA8_A o) = [0xE0#8, o] ∧
      exec (.ldh_atA8_A o) s =
        .next ((write8 s (BitVec.ofNat 16 (0xFF00 + o.toNat)) s.cpu.a).setCpu { s.cpu with cycles := 12 })) ∧
    (encode .ld_atC_A = [0xE2#8] ∧
      exec .ld_atC_A s =
        .next ((write8 s (BitVec.ofNat 16 (0xFF00 + s.cpu.c.toNat)) s.cpu.a).setCpu { s.cpu with cycles := 8 }))

/-- The post-increment and post-decrement forms: the old `HL` addresses, then `HL` moves modulo 65536 (R176 to R179). -/
def Obligations.LoadMovingHL : Prop :=
  ∀ (s : State) (up down : Word),
    up = BitVec.ofNat 16 (s.cpu.atHL.toNat + 1) → down = BitVec.ofNat 16 (s.cpu.atHL.toNat + 65535) →
    (encode .ld_atHLI_A = [0x22#8] ∧
      exec .ld_atHLI_A s = .next ((write8 s s.cpu.atHL s.cpu.a).setCpu
        { s.cpu with h := highByte up, l := lowByte up, cycles := 8 })) ∧
    (encode .ld_atHLD_A = [0x32#8] ∧
      exec .ld_atHLD_A s = .next ((write8 s s.cpu.atHL s.cpu.a).setCpu
        { s.cpu with h := highByte down, l := lowByte down, cycles := 8 })) ∧
    (encode .ld_A_atHLI = [0x2A#8] ∧
      exec .ld_A_atHLI s = .next (s.setCpu
        { s.cpu with a := read8 s s.cpu.atHL, h := highByte up, l := lowByte up, cycles := 8 })) ∧
    (encode .ld_A_atHLD = [0x3A#8] ∧
      exec .ld_A_atHLD s = .next (s.setCpu
        { s.cpu with a := read8 s s.cpu.atHL, h := highByte down, l := lowByte down, cycles := 8 }))

/-! 16-bit loads and the stack. -/

/-- `LD rp,d16`, `LD (a16),SP`, `LD SP,HL` (R180, R181, R182). -/
def Obligations.Load16 : Prop :=
  ∀ (s : State) (v : Word),
    (∀ q : Rp, encode (Instr.ldRpImm q v) = [BitVec.ofNat 8 (0x01 + 16 * q.code), lowByte v, highByte v]) ∧
    exec (Instr.ldRpImm .bc v) s = .next (s.setCpu { s.cpu with b := highByte v, c := lowByte v, cycles := 12 }) ∧
    exec (Instr.ldRpImm .de v) s = .next (s.setCpu { s.cpu with d := highByte v, e := lowByte v, cycles := 12 }) ∧
    exec (Instr.ldRpImm .hl v) s = .next (s.setCpu { s.cpu with h := highByte v, l := lowByte v, cycles := 12 }) ∧
    exec (Instr.ldRpImm .sp v) s = .next (s.setCpu { s.cpu with sp := v, cycles := 12 }) ∧
    (encode (.ld_atA16_SP v) = [0x08#8, lowByte v, highByte v] ∧
      exec (.ld_atA16_SP v) s =
        .next ((write8 (write8 s v (lowByte s.cpu.sp)) (BitVec.ofNat 16 (v.toNat + 1)) (highByte s.cpu.sp)).setCpu
          { s.cpu with cycles := 20 })) ∧
    (encode .ld_SP_HL = [0xF9#8] ∧
      exec .ld_SP_HL s = .next (s.setCpu { s.cpu with sp := s.cpu.h ++ s.cpu.l, cycles := 8 }))

/-- `LD HL,SP+e8` and `ADD SP,e8`: a signed offset, carries of the unsigned low bytes (R183, R213). -/
def Obligations.StackPointerOffset : Prop :=
  ∀ (s : State) (e : Byte) (v : Word) (f : Byte),
    v = BitVec.ofInt 16 ((s.cpu.sp.toNat : Int) + signed e) →
    f = flagByte false false (decide (0x0F < s.cpu.sp.toNat % 16 + e.toNat % 16))
      (decide (0xFF < s.cpu.sp.toNat % 256 + e.toNat)) →
    (encode (.ld_HL_SPe8 e) = [0xF8#8, e] ∧
      exec (.ld_HL_SPe8 e) s =
        .next (s.setCpu { s.cpu with h := highByte v, l := lowByte v, f := f, cycles := 12 })) ∧
    (encode (.add_SP_e8 e) = [0xE8#8, e] ∧
      exec (.add_SP_e8 e) s = .next (s.setCpu { s.cpu with sp := v, f := f, cycles := 16 }))

/-- `PUSH` and `POP`; `POP AF` drops the low nibble of what it pops (R184, R185, R186). -/
def Obligations.Stack : Prop :=
  ∀ s : State,
    (encode .push_BC = [0xC5#8] ∧ encode .push_DE = [0xD5#8] ∧ encode .push_HL = [0xE5#8] ∧
      encode .push_AF = [0xF5#8] ∧ encode .pop_BC = [0xC1#8] ∧ encode .pop_DE = [0xD1#8] ∧
      encode .pop_HL = [0xE1#8] ∧ encode .pop_AF = [0xF1#8]) ∧
    (exec .push_BC s = .next ((pushedBytes s (s.cpu.b ++ s.cpu.c)).setCpu
        { s.cpu with sp := s.cpu.sp - 2#16, cycles := 16 }) ∧
      exec .push_DE s = .next ((pushedBytes s (s.cpu.d ++ s.cpu.e)).setCpu
        { s.cpu with sp := s.cpu.sp - 2#16, cycles := 16 }) ∧
      exec .push_HL s = .next ((pushedBytes s (s.cpu.h ++ s.cpu.l)).setCpu
        { s.cpu with sp := s.cpu.sp - 2#16, cycles := 16 }) ∧
      exec .push_AF s = .next ((pushedBytes s (s.cpu.a ++ s.cpu.f)).setCpu
        { s.cpu with sp := s.cpu.sp - 2#16, cycles := 16 })) ∧
    (exec .pop_BC s = .next (s.setCpu { s.cpu with
        c := read8 s s.cpu.sp, b := read8 s (s.cpu.sp + 1#16), sp := s.cpu.sp + 2#16, cycles := 12 }) ∧
      exec .pop_DE s = .next (s.setCpu { s.cpu with
        e := read8 s s.cpu.sp, d := read8 s (s.cpu.sp + 1#16), sp := s.cpu.sp + 2#16, cycles := 12 }) ∧
      exec .pop_HL s = .next (s.setCpu { s.cpu with
        l := read8 s s.cpu.sp, h := read8 s (s.cpu.sp + 1#16), sp := s.cpu.sp + 2#16, cycles := 12 }) ∧
      exec .pop_AF s = .next (s.setCpu { s.cpu with
        f := read8 s s.cpu.sp &&& 0xF0#8, a := read8 s (s.cpu.sp + 1#16), sp := s.cpu.sp + 2#16, cycles := 12 }))

/-! 8-bit arithmetic and logic. -/

/-- `ADD A,v` and `ADC A,v` in every operand form (R190, R191). -/
def Obligations.AddWithCarry : Prop :=
  ∀ (form : AluForm) (s : State) (a v c : Nat),
    a = s.cpu.a.toNat → v = (form.value s).toNat → c = s.cpu.cf.toNat →
    (encode (form.instr .add) = form.bytes .add ∧
      exec (form.instr .add) s = .next (s.setCpu { s.cpu with
        a := BitVec.ofNat 8 (a + v),
        f := flagByte (decide ((a + v) % 256 = 0)) false (decide (0x0F < a % 16 + v % 16)) (decide (0xFF < a + v)),
        cycles := form.cycles })) ∧
    (encode (form.instr .adc) = form.bytes .adc ∧
      exec (form.instr .adc) s = .next (s.setCpu { s.cpu with
        a := BitVec.ofNat 8 (a + v + c),
        f := flagByte (decide ((a + v + c) % 256 = 0)) false (decide (0x0F < a % 16 + v % 16 + c))
          (decide (0xFF < a + v + c)),
        cycles := form.cycles }))

/-- `SUB v`, `SBC A,v` and `CP v` in every operand form (R192, R193, R197). -/
def Obligations.SubtractAndCompare : Prop :=
  ∀ (form : AluForm) (s : State) (a v c : Nat) (f : Byte),
    a = s.cpu.a.toNat → v = (form.value s).toNat → c = s.cpu.cf.toNat →
    f = flagByte (decide (a = v)) true (decide (a % 16 < v % 16)) (decide (a < v)) →
    (encode (form.instr .sub) = form.bytes .sub ∧
      exec (form.instr .sub) s = .next (s.setCpu { s.cpu with
        a := BitVec.ofNat 8 (a + 256 - v), f := f, cycles := form.cycles })) ∧
    (encode (form.instr .sbc) = form.bytes .sbc ∧
      exec (form.instr .sbc) s = .next (s.setCpu { s.cpu with
        a := BitVec.ofNat 8 (a + 256 - (v + c)),
        f := flagByte (decide ((a + 256 - (v + c)) % 256 = 0)) true (decide (a % 16 < v % 16 + c))
          (decide (a < v + c)),
        cycles := form.cycles })) ∧
    (encode (form.instr .cp) = form.bytes .cp ∧
      exec (form.instr .cp) s = .next (s.setCpu { s.cpu with f := f, cycles := form.cycles }))

/-- `AND v`, `XOR v` and `OR v` in every operand form (R194, R195, R196). -/
def Obligations.Logic : Prop :=
  ∀ (form : AluForm) (s : State) (v : Byte), v = form.value s →
    (encode (form.instr .and) = form.bytes .and ∧
      exec (form.instr .and) s = .next (s.setCpu { s.cpu with
        a := s.cpu.a &&& v, f := flagByte (decide (s.cpu.a &&& v = 0#8)) false true false, cycles := form.cycles })) ∧
    (encode (form.instr .xor) = form.bytes .xor ∧
      exec (form.instr .xor) s = .next (s.setCpu { s.cpu with
        a := s.cpu.a ^^^ v, f := flagByte (decide (s.cpu.a ^^^ v = 0#8)) false false false, cycles := form.cycles })) ∧
    (encode (form.instr .or) = form.bytes .or ∧
      exec (form.instr .or) s = .next (s.setCpu { s.cpu with
        a := s.cpu.a ||| v, f := flagByte (decide (s.cpu.a ||| v = 0#8)) false false false, cycles := form.cycles }))

/-- `INC` and `DEC` of a register and of the byte at `HL`: `C` is kept (R198 to R201). -/
def Obligations.IncrementDecrement : Prop :=
  (∀ (r : Reg8) (s : State) (v : Nat), v = (s.cpu.get8 r).toNat →
    (encode (Instr.incR r) = [BitVec.ofNat 8 (0x04 + 8 * r.code)] ∧
      exec (Instr.incR r) s = .next (s.setCpu { s.cpu.set8 r (BitVec.ofNat 8 (v + 1)) with
        f := flagByte (decide (v = 255)) false (decide (v % 16 = 15)) s.cpu.cf, cycles := 4 })) ∧
    (encode (Instr.decR r) = [BitVec.ofNat 8 (0x05 + 8 * r.code)] ∧
      exec (Instr.decR r) s = .next (s.setCpu { s.cpu.set8 r (BitVec.ofNat 8 (v + 255)) with
        f := flagByte (decide (v = 1)) true (decide (v % 16 = 0)) s.cpu.cf, cycles := 4 }))) ∧
  (∀ (s : State) (v : Nat), v = (read8 s s.cpu.atHL).toNat →
    (encode .inc_atHL = [0x34#8] ∧
      exec .inc_atHL s = .next ((write8 s s.cpu.atHL (BitVec.ofNat 8 (v + 1))).setCpu { s.cpu with
        f := flagByte (decide (v = 255)) false (decide (v % 16 = 15)) s.cpu.cf, cycles := 12 })) ∧
    (encode .dec_atHL = [0x35#8] ∧
      exec .dec_atHL s = .next ((write8 s s.cpu.atHL (BitVec.ofNat 8 (v + 255))).setCpu { s.cpu with
        f := flagByte (decide (v = 1)) true (decide (v % 16 = 0)) s.cpu.cf, cycles := 12 })))

/-- `DAA`, `CPL`, `SCF`, `CCF` (R202 to R205). -/
def Obligations.AccumulatorAdjust : Prop :=
  ∀ (s : State) (r : Nat × Bool), r = daaResult s.cpu.a.toNat s.cpu.nf s.cpu.hf s.cpu.cf →
    (encode .daa = [0x27#8] ∧
      exec .daa s = .next (s.setCpu { s.cpu with
        a := BitVec.ofNat 8 r.1, f := flagByte (decide (r.1 = 0)) s.cpu.nf false r.2, cycles := 4 })) ∧
    (encode .cpl = [0x2F#8] ∧
      exec .cpl s = .next (s.setCpu { s.cpu with
        a := BitVec.ofNat 8 (255 - s.cpu.a.toNat), f := flagByte s.cpu.zf true true s.cpu.cf, cycles := 4 })) ∧
    (encode .scf = [0x37#8] ∧
      exec .scf s = .next (s.setCpu { s.cpu with f := flagByte s.cpu.zf false false true, cycles := 4 })) ∧
    (encode .ccf = [0x3F#8] ∧
      exec .ccf s = .next (s.setCpu { s.cpu with f := flagByte s.cpu.zf false false (!s.cpu.cf), cycles := 4 }))

/-! 16-bit arithmetic. -/

/-- `ADD HL,rp`, `INC rp`, `DEC rp` for every `rp`: modulo 65536, and only the first writes flags (R210 to R212). -/
def Obligations.Arithmetic16 : Prop :=
  ∀ (q : Rp) (s : State) (a v : Nat) (r : Word), a = s.cpu.atHL.toNat → v = (s.cpu.getPair q.pair).toNat →
    r = BitVec.ofNat 16 (a + v) →
    (encode (Instr.addHLRp q) = [BitVec.ofNat 8 (0x09 + 16 * q.code)] ∧
      exec (Instr.addHLRp q) s = .next (s.setCpu { s.cpu with
        h := highByte r, l := lowByte r,
        f := flagByte s.cpu.zf false (decide (0x0FFF < a % 4096 + v % 4096)) (decide (0xFFFF < a + v)),
        cycles := 8 })) ∧
    (encode (Instr.incRp q) = [BitVec.ofNat 8 (0x03 + 16 * q.code)] ∧
      exec (Instr.incRp q) s = .next (s.setCpu
        { s.cpu.setPair q.pair (BitVec.ofNat 16 (v + 1)) with cycles := 8 })) ∧
    (encode (Instr.decRp q) = [BitVec.ofNat 8 (0x0B + 16 * q.code)] ∧
      exec (Instr.decRp q) s = .next (s.setCpu
        { s.cpu.setPair q.pair (BitVec.ofNat 16 (v + 65535)) with cycles := 8 }))

/-! Rotates, shifts and bits. -/

/-- `RLCA`, `RRCA`, `RLA`, `RRA`: `Z` is always cleared (R220 to R223). -/
def Obligations.RotateAccumulator : Prop :=
  ∀ (s : State) (i : Instr) (op : RotOp) (code : Byte) (q : Nat × Nat),
    ((i = .rlca ∧ op = .rlc ∧ code = 0x07#8) ∨ (i = .rrca ∧ op = .rrc ∧ code = 0x0F#8) ∨
      (i = .rla ∧ op = .rl ∧ code = 0x17#8) ∨ (i = .rra ∧ op = .rr ∧ code = 0x1F#8)) →
    q = rotated op s.cpu.a.toNat s.cpu.cf.toNat →
    encode i = [code] ∧
    exec i s = .next (s.setCpu { s.cpu with
      a := BitVec.ofNat 8 q.1, f := flagByte false false false (decide (q.2 = 1)), cycles := 4 })

/-- The rotates, shifts and `SWAP` of the extended table on a register and on the byte at `HL` (R224 to R231). -/
def Obligations.RotateOperand : Prop :=
  (∀ (op : RotOp) (r : Reg8) (s : State) (q : Nat × Nat),
    q = rotated op (s.cpu.get8 r).toNat s.cpu.cf.toNat →
    encode (Instr.rot op (.reg r)) = [0xCB#8, BitVec.ofNat 8 (8 * op.code + r.code)] ∧
    exec (Instr.rot op (.reg r)) s = .next (s.setCpu { s.cpu.set8 r (BitVec.ofNat 8 q.1) with
      f := flagByte (decide (q.1 = 0)) false false (decide (q.2 = 1)), cycles := 8 })) ∧
  (∀ (op : RotOp) (s : State) (q : Nat × Nat),
    q = rotated op (read8 s s.cpu.atHL).toNat s.cpu.cf.toNat →
    encode (Instr.rot op .atHL) = [0xCB#8, BitVec.ofNat 8 (8 * op.code + 6)] ∧
    exec (Instr.rot op .atHL) s = .next ((write8 s s.cpu.atHL (BitVec.ofNat 8 q.1)).setCpu { s.cpu with
      f := flagByte (decide (q.1 = 0)) false false (decide (q.2 = 1)), cycles := 16 }))

/-- `BIT b,t` (`Z` is the complement of the tested bit, `C` is kept, nothing is written back), `RES b,t` and `SET b,t`
(one bit becomes 0 or 1, no flag changes), on a register and on the byte at `HL` (R232 to R234). -/
def Obligations.SingleBit : Prop :=
  (∀ (b : Oct) (r : Reg8) (s : State) (v0 v1 : Byte),
    (∀ k, k < 8 → v0.getLsbD k = (decide (k ≠ b.toNat) && (s.cpu.get8 r).getLsbD k)) →
    (∀ k, k < 8 → v1.getLsbD k = (decide (k = b.toNat) || (s.cpu.get8 r).getLsbD k)) →
    (encode (Instr.bit b (.reg r)) = [0xCB#8, BitVec.ofNat 8 (0x40 + 8 * b.toNat + r.code)] ∧
      exec (Instr.bit b (.reg r)) s = .next (s.setCpu { s.cpu with
        f := flagByte (decide ((s.cpu.get8 r).toNat / 2 ^ b.toNat % 2 = 0)) false true s.cpu.cf, cycles := 8 })) ∧
    (encode (Instr.res b (.reg r)) = [0xCB#8, BitVec.ofNat 8 (0x80 + 8 * b.toNat + r.code)] ∧
      exec (Instr.res b (.reg r)) s = .next (s.setCpu { s.cpu.set8 r v0 with cycles := 8 })) ∧
    (encode (Instr.set b (.reg r)) = [0xCB#8, BitVec.ofNat 8 (0xC0 + 8 * b.toNat + r.code)] ∧
      exec (Instr.set b (.reg r)) s = .next (s.setCpu { s.cpu.set8 r v1 with cycles := 8 }))) ∧
  (∀ (b : Oct) (s : State) (v0 v1 : Byte),
    (∀ k, k < 8 → v0.getLsbD k = (decide (k ≠ b.toNat) && (read8 s s.cpu.atHL).getLsbD k)) →
    (∀ k, k < 8 → v1.getLsbD k = (decide (k = b.toNat) || (read8 s s.cpu.atHL).getLsbD k)) →
    (encode (Instr.bit b .atHL) = [0xCB#8, BitVec.ofNat 8 (0x40 + 8 * b.toNat + 6)] ∧
      exec (Instr.bit b .atHL) s = .next (s.setCpu { s.cpu with
        f := flagByte (decide ((read8 s s.cpu.atHL).toNat / 2 ^ b.toNat % 2 = 0)) false true s.cpu.cf,
        cycles := 12 })) ∧
    (encode (Instr.res b .atHL) = [0xCB#8, BitVec.ofNat 8 (0x80 + 8 * b.toNat + 6)] ∧
      exec (Instr.res b .atHL) s = .next ((write8 s s.cpu.atHL v0).setCpu { s.cpu with cycles := 16 })) ∧
    (encode (Instr.set b .atHL) = [0xCB#8, BitVec.ofNat 8 (0xC0 + 8 * b.toNat + 6)] ∧
      exec (Instr.set b .atHL) s = .next ((write8 s s.cpu.atHL v1).setCpu { s.cpu with cycles := 16 })))

/-! Control transfer. -/

/-- The jumps (R240 to R244). -/
def Obligations.Jumps : Prop :=
  ∀ (s : State) (a : Word) (e : Byte) (cc : Cond) (rel : Word),
    rel = BitVec.ofInt 16 ((s.cpu.pc.toNat : Int) + signed e) →
    (encode (.jp_a16 a) = [0xC3#8, lowByte a, highByte a] ∧
      exec (.jp_a16 a) s = .next (s.setCpu { s.cpu with pc := a, cycles := 16 })) ∧
    (encode (Instr.jpCc cc a) = [BitVec.ofNat 8 (0xC2 + 8 * cc.code), lowByte a, highByte a] ∧
      exec (Instr.jpCc cc a) s =
        .next (s.setCpu (if s.cpu.holds cc then { s.cpu with pc := a, cycles := 16 }
          else { s.cpu with cycles := 12 }))) ∧
    (encode .jp_HL = [0xE9#8] ∧
      exec .jp_HL s = .next (s.setCpu { s.cpu with pc := s.cpu.h ++ s.cpu.l, cycles := 4 })) ∧
    (encode (.jr_e8 e) = [0x18#8, e] ∧
      exec (.jr_e8 e) s = .next (s.setCpu { s.cpu with pc := rel, cycles := 12 })) ∧
    (encode (Instr.jrCc cc e) = [BitVec.ofNat 8 (0x20 + 8 * cc.code), e] ∧
      exec (Instr.jrCc cc e) s =
        .next (s.setCpu (if s.cpu.holds cc then { s.cpu with pc := rel, cycles := 12 }
          else { s.cpu with cycles := 8 })))

/-- `CALL`, `CALL cc` and `RST` (R245, R246, R253). -/
def Obligations.Calls : Prop :=
  ∀ (s : State) (a : Word) (cc : Cond) (y : Oct),
    (encode (.call_a16 a) = [0xCD#8, lowByte a, highByte a] ∧
      exec (.call_a16 a) s =
        .next ((pushedBytes s s.cpu.pc).setCpu { s.cpu with sp := s.cpu.sp - 2#16, pc := a, cycles := 24 })) ∧
    (encode (Instr.callCc cc a) = [BitVec.ofNat 8 (0xC4 + 8 * cc.code), lowByte a, highByte a] ∧
      exec (Instr.callCc cc a) s =
        .next (if s.cpu.holds cc then
            (pushedBytes s s.cpu.pc).setCpu { s.cpu with sp := s.cpu.sp - 2#16, pc := a, cycles := 24 }
          else s.setCpu { s.cpu with cycles := 12 })) ∧
    (encode (Instr.rst y) = [BitVec.ofNat 8 (0xC7 + 8 * y.toNat)] ∧
      exec (Instr.rst y) s =
        .next ((pushedBytes s s.cpu.pc).setCpu
          { s.cpu with sp := s.cpu.sp - 2#16, pc := BitVec.ofNat 16 (8 * y.toNat), cycles := 16 }))

/-- `RET`, `RET cc` and `RETI` (R247, R248, R252). -/
def Obligations.Returns : Prop :=
  ∀ (s : State) (cc : Cond),
    (encode .ret = [0xC9#8] ∧
      exec .ret s = .next (s.setCpu { s.cpu with pc := poppedWord s, sp := s.cpu.sp + 2#16, cycles := 16 })) ∧
    (encode (Instr.retCc cc) = [BitVec.ofNat 8 (0xC0 + 8 * cc.code)] ∧
      exec (Instr.retCc cc) s =
        .next (s.setCpu (if s.cpu.holds cc then
            { s.cpu with pc := poppedWord s, sp := s.cpu.sp + 2#16, cycles := 20 }
          else { s.cpu with cycles := 8 }))) ∧
    (encode .reti = [0xD9#8] ∧
      exec .reti s = .next (s.setCpu { s.cpu with
        pc := poppedWord s, sp := s.cpu.sp + 2#16, ime := true, eiPending := false, cycles := 16 }))

/-! System. -/

/-- `NOP`, `DI`, and what `HALT`, `STOP` and `EI` do themselves (R260, R264; R261, R263, R265). -/
def Obligations.SystemInstructions : Prop :=
  ∀ (s : State) (pad : Byte),
    (encode .nop = [0x00#8] ∧ exec .nop s = .next (s.setCpu { s.cpu with cycles := 4 })) ∧
    (encode .di = [0xF3#8] ∧
      exec .di s = .next (s.setCpu { s.cpu with ime := false, eiPending := false, cycles := 4 })) ∧
    (encode .ei = [0xFB#8] ∧ exec .ei s = .next (s.setCpu { s.cpu with eiPending := true, cycles := 4 })) ∧
    (encode .halt = [0x76#8] ∧ exec .halt s = .next (s.setCpu { s.cpu with mode := .halted, cycles := 4 })) ∧
    (encode (.stop pad) = [0x10#8, pad] ∧
      exec (.stop pad) s = .next (s.setCpu { s.cpu with mode := .stopped, cycles := 4 }))

/-! What an instruction leaves unchanged. -/

/-- The registers an instruction leaves unchanged: every 8-bit register it does not write, `SP`, `IME`, `ei_pending`,
`mode` and `fatal_info` outside the few instructions that write them (R22, R30 to R32). `pc` may change. -/
def Obligations.FrameRegisters : Prop :=
  ∀ (i : Instr) (s t : State) (op : Nat), i.wellFormed = true → exec i s = .next t → op = opcodeOf i →
    (∀ r : Reg8, r ∉ writtenRegs op (opcode2Of i s) → t.cpu.get8 r = s.cpu.get8 r) ∧
    (writesSp op = false → t.cpu.sp = s.cpu.sp) ∧
    (op ≠ 0xF3 → op ≠ 0xD9 → t.cpu.ime = s.cpu.ime) ∧
    (op ≠ 0xF3 → op ≠ 0xFB → op ≠ 0xD9 → t.cpu.eiPending = s.cpu.eiPending) ∧
    ((∀ b, i ≠ .undefined b) →
      t.cpu.fatalOp = s.cpu.fatalOp ∧ t.cpu.fatalAddr = s.cpu.fatalAddr ∧
        (op ≠ 0x76 → op ≠ 0x10 → t.cpu.mode = s.cpu.mode)) ∧
    t.inputs = s.inputs ∧ t.sinkPending = s.sinkPending

/-- Which instructions write which flags: the table of R26, row by row, and interrupt dispatch. -/
def Obligations.FrameFlags : Prop :=
  (∀ (i : Instr) (s t : State) (w : FlagRow), i.wellFormed = true → exec i s = .next t →
    w = flagRow (opcodeOf i) (opcode2Of i s) →
    w.z.agrees s.cpu.zf t.cpu.zf ∧ w.n.agrees s.cpu.nf t.cpu.nf ∧ w.h.agrees s.cpu.hf t.cpu.hf ∧
      w.c.agrees s.cpu.cf t.cpu.cf ∧
      (w = ⟨.keep, .keep, .keep, .keep⟩ → t.cpu.f = s.cpu.f) ∧
      (opcodeOf i = 0xF1 →
        t.cpu.zf = (read8 s s.cpu.sp).getLsbD 7 ∧ t.cpu.nf = (read8 s s.cpu.sp).getLsbD 6 ∧
          t.cpu.hf = (read8 s s.cpu.sp).getLsbD 5 ∧ t.cpu.cf = (read8 s s.cpu.sp).getLsbD 4)) ∧
  (∀ (s : State) (i : Nat), (takeInterrupt s i).cpu.f = s.cpu.f)

/-- The memory an instruction leaves unchanged: its effect outside the CPU is byte stores at `storeAddrs`, in order; an
instruction that stores nothing changes nothing outside the CPU; and every address that none of the stored addresses
touches reads as before. -/
def Obligations.FrameMemory : Prop :=
  ∀ (i : Instr) (s t : State), i.wellFormed = true → exec i s = .next t →
    (∃ vs : List Byte, vs.length = (storeAddrs i s).length ∧
      t = (afterStores s ((storeAddrs i s).zip vs)).setCpu t.cpu) ∧
    (storeAddrs i s = [] → t = s.setCpu t.cpu) ∧
    (∀ b : Word, (∀ a ∈ storeAddrs i s, touches a b = false) → read8 t b = read8 s b)

/-! The bus. -/

/-- Work RAM, its echo and high RAM: always accessible, a write is seen at once through every name of the byte and
nowhere else, and changes no other state (R67, R68, R71). -/
def Obligations.PlainRam : Prop :=
  ∀ (s : State) (a : Word) (v : Byte),
    (0xC000 ≤ a.toNat ∧ a.toNat < 0xFE00 →
      (read8 s a = s.bus.wram.read .wram (if a.toNat < 0xE000 then a.toNat - 0xC000 else a.toNat - 0xE000)) ∧
      read8 (write8 s a v) a = v ∧
      (∀ b : Word, 0xC000 ≤ b.toNat → b.toNat < 0xFE00 → b.toNat % 0x2000 = a.toNat % 0x2000 →
        read8 (write8 s a v) b = v) ∧
      (∀ b : Word, ¬(0xC000 ≤ b.toNat ∧ b.toNat < 0xFE00 ∧ b.toNat % 0x2000 = a.toNat % 0x2000) →
        read8 (write8 s a v) b = read8 s b) ∧
      write8 s a v = { s with bus := { s.bus with wram := (write8 s a v).bus.wram } }) ∧
    (0xFF80 ≤ a.toNat ∧ a.toNat ≤ 0xFFFE →
      read8 s a = s.bus.hram.read .hram (a.toNat - 0xFF80) ∧
      read8 (write8 s a v) a = v ∧ (∀ b : Word, b ≠ a → read8 (write8 s a v) b = read8 s b) ∧
      write8 s a v = { s with bus := { s.bus with hram := (write8 s a v).bus.hram } })

/-- VRAM and OAM are gated by the PPU's mode; the range after OAM is unusable (R65, R69). -/
def Obligations.GatedVideoMemory : Prop :=
  ∀ (s : State) (a : Word) (v : Byte),
    (0x8000 ≤ a.toNat ∧ a.toNat ≤ 0x9FFF →
      (s.ppu.mode = .pixelTransfer → read8 s a = 0xFF#8 ∧ write8 s a v = s) ∧
      (s.ppu.mode ≠ .pixelTransfer →
        read8 s a = s.ppu.vram.read .vram (a.toNat - 0x8000) ∧ read8 (write8 s a v) a = v ∧
        (∀ b : Word, b ≠ a → read8 (write8 s a v) b = read8 s b) ∧
        write8 s a v = { s with ppu := { s.ppu with vram := (write8 s a v).ppu.vram } })) ∧
    (0xFE00 ≤ a.toNat ∧ a.toNat ≤ 0xFE9F →
      (s.ppu.mode = .pixelTransfer ∨ s.ppu.mode = .oamScan → read8 s a = 0xFF#8 ∧ write8 s a v = s) ∧
      (s.ppu.mode ≠ .pixelTransfer → s.ppu.mode ≠ .oamScan →
        read8 s a = s.ppu.oam.read .oam (a.toNat - 0xFE00) ∧ read8 (write8 s a v) a = v ∧
        (∀ b : Word, b ≠ a → read8 (write8 s a v) b = read8 s b) ∧
        write8 s a v = { s with ppu := { s.ppu with oam := (write8 s a v).ppu.oam } })) ∧
    (0xFEA0 ≤ a.toNat ∧ a.toNat ≤ 0xFEFF → read8 s a = 0xFF#8 ∧ write8 s a v = s)

/-- `IF` and `IE`, and the unmapped addresses of the I/O page and of the sound range (R33, R72, R393). -/
def Obligations.InterruptRegisters : Prop :=
  ∀ (s : State) (a : Word) (v : Byte),
    (read8 s 0xFF0F#16).toNat = 0xE0 + s.bus.ifReg.toNat ∧
    (write8 s 0xFF0F#16 v = { s with bus := { s.bus with ifReg := BitVec.ofNat 5 (v.toNat % 32) } }) ∧
    read8 s 0xFFFF#16 = s.bus.ie ∧ write8 s 0xFFFF#16 v = { s with bus := { s.bus with ie := v } } ∧
    ((a = 0xFF01#16 ∨ a = 0xFF02#16 ∨ a = 0xFF03#16 ∨ within 0xFF08 0xFF0F a = true ∨
        within 0xFF4C 0xFF80 a = true ∨ a = 0xFF15#16 ∨ a = 0xFF1F#16 ∨ within 0xFF27 0xFF30 a = true) →
      read8 s a = 0xFF#8 ∧ write8 s a v = s)

/-- The OAM DMA: a write of `v` to `0xFF46` copies the 160 bytes that the bus reads from page `v` into OAM, whatever the
PPU's mode, and changes nothing else (R75). -/
def Obligations.OamDma : Prop :=
  ∀ (s : State) (v : Byte) (t u : State), t = write8 s 0xFF46#16 v → u = { s with bus := { s.bus with dmaReg := v } } →
    read8 t 0xFF46#16 = v ∧
    (∀ k, k < 160 → t.ppu.oam.read .oam k = read8 u (BitVec.ofNat 16 (256 * v.toNat + k))) ∧
    t = { u with ppu := { u.ppu with oam := t.ppu.oam } }

/-! The Timer. -/

/-- The four Timer registers on the bus, with the falling edge that a write to DIV or TAC can make (R322 to R325). -/
def Obligations.TimerRegisters : Prop :=
  ∀ (s : State) (v : Byte),
    read8 s 0xFF04#16 = highByte s.timer.div16 ∧ read8 s 0xFF05#16 = s.timer.tima ∧
    read8 s 0xFF06#16 = s.timer.tma ∧ (read8 s 0xFF07#16).toNat = 0xF8 + s.timer.tac.toNat ∧
    write8 s 0xFF04#16 v =
      { s with timer := bumpIf (watched s.timer.tac s.timer.div16) { s.timer with div16 := 0#16 } } ∧
    write8 s 0xFF05#16 v = { s with timer := { s.timer with tima := v } } ∧
    write8 s 0xFF06#16 v = { s with timer := { s.timer with tma := v } } ∧
    write8 s 0xFF07#16 v =
      { s with timer :=
          (bumpIf (watched s.timer.tac s.timer.div16 && !watched (BitVec.ofNat 3 (v.toNat % 8)) s.timer.div16)
            { s.timer with tac := BitVec.ofNat 3 (v.toNat % 8) }) }

/-- The Timer over `n` T-cycles in closed form: the divider counts every one; an enabled `TIMA` counts the multiples of
1024, 16, 64 or 256 that the divider passes, and on overflow goes on from `TMA` and requests its interrupt. -/
def Obligations.TimerRate : Prop :=
  ∀ (t : Timer) (n period count total : Nat),
    period = (if t.tac.toNat % 4 = 0 then 1024 else if t.tac.toNat % 4 = 1 then 16
      else if t.tac.toNat % 4 = 2 then 64 else 256) →
    count = (if 4 ≤ t.tac.toNat then (t.div16.toNat % period + n) / period else 0) →
    total = t.tima.toNat + count →
    t.cycle n = { t with
      div16 := BitVec.ofNat 16 (t.div16.toNat + n),
      tima := BitVec.ofNat 8 (if total < 256 then total
        else t.tma.toNat + (total - 256) % (256 - t.tma.toNat)),
      intMask := if total < 256 then t.intMask else t.intMask ||| 0b00100#5 }

/-! The PPU. -/

/-- While the LCD is on, `n` dots move the PPU `n` places along its frame of 154 lines of 456 dots, with the mode that
its line and dot say; each pass of line 144 sets the V-blank bit (R351). -/
def Obligations.PpuFrame : Prop :=
  ∀ (p q : Ppu) (n : Nat), p.Inv → p.lcdc.getLsbD 7 = true → q = p.cycle n →
    q.position = (p.position + n) % 70224 ∧ q.ly < 154 ∧ q.dot < 456 ∧
    (q.ly < 144 → q.mode = (if q.dot < 80 then .oamScan else if q.dot < 252 then .pixelTransfer else .hblank)) ∧
    (144 ≤ q.ly → q.mode = .vblank) ∧
    (p.position < 456 * 144 → 456 * 144 ≤ p.position + n →
      q.intMask.getLsbD 0 = true ∧ q.frameReady = true) ∧
    q.vram = p.vram ∧ q.oam = p.oam

/-- Switching the LCD off and on, and what it does while off (R342, R352). -/
def Obligations.LcdSwitch : Prop :=
  ∀ (s : State) (v : Byte) (t : Ppu), t = (write8 s 0xFF40#16 v).ppu →
    read8 (write8 s 0xFF40#16 v) 0xFF40#16 = v ∧ write8 s 0xFF40#16 v = { s with ppu := t } ∧
    (s.ppu.lcdc.getLsbD 7 = true ∧ v.getLsbD 7 = false →
      t = { s.ppu with lcdc := v, dot := 0, ly := 0, mode := .hblank, lycFlag := decide (s.ppu.lyc = 0#8),
                       fb := t.fb, ci := t.ci, frameReady := true } ∧
      (∀ x y, x < 160 → y < 144 → t.pixel x y = Config.palette 0#2 ∧ (t.ci.row y).pixel x = 0#2) ∧
      ∀ n, t.cycle n = t) ∧
    (s.ppu.lcdc.getLsbD 7 = false ∧ v.getLsbD 7 = true →
      t = { s.ppu with lcdc := v, dot := 0, ly := 0, mode := .oamScan, lycFlag := decide (s.ppu.lyc = 0#8) }) ∧
    (s.ppu.lcdc.getLsbD 7 = v.getLsbD 7 → t = { s.ppu with lcdc := v })

/-- STAT, LY, LYC and the plain PPU registers on the bus (R343 to R345). -/
def Obligations.PpuRegisters : Prop :=
  ∀ (s : State) (v : Byte),
    ((read8 s 0xFF41#16).toNat = 0x80 + 8 * s.ppu.statSel.toNat + 4 * s.ppu.lycFlag.toNat +
        (match s.ppu.mode with | .hblank => 0 | .vblank => 1 | .oamScan => 2 | .pixelTransfer => 3) ∧
      write8 s 0xFF41#16 v = { s with ppu := { s.ppu with statSel := BitVec.ofNat 4 (v.toNat / 8 % 16) } } ∧
      (s.ppu.Inv → s.ppu.lcdc.getLsbD 7 = false → (read8 s 0xFF41#16).toNat % 4 = 0 ∧ read8 s 0xFF44#16 = 0x00#8)) ∧
    ((s.ppu.ly < 256 → (read8 s 0xFF44#16).toNat = s.ppu.ly) ∧ write8 s 0xFF44#16 v = s ∧
      read8 s 0xFF45#16 = s.ppu.lyc ∧
      write8 s 0xFF45#16 v = { s with ppu := { s.ppu with lyc := v, lycFlag := decide (s.ppu.ly = v.toNat) } }) ∧
    (read8 s 0xFF42#16 = s.ppu.scy ∧ write8 s 0xFF42#16 v = { s with ppu := { s.ppu with scy := v } } ∧
      read8 s 0xFF43#16 = s.ppu.scx ∧ write8 s 0xFF43#16 v = { s with ppu := { s.ppu with scx := v } } ∧
      read8 s 0xFF4A#16 = s.ppu.wy ∧ write8 s 0xFF4A#16 v = { s with ppu := { s.ppu with wy := v } } ∧
      read8 s 0xFF4B#16 = s.ppu.wx ∧ write8 s 0xFF4B#16 v = { s with ppu := { s.ppu with wx := v } })

/-- The dot that ends pixel transfer draws line `ly`: the background or window index of every column (R361 to R363), its
shade (R364, R365), and over it the first of at most ten selected sprites that shows there (R366 to R368). The other
lines keep their pixels. -/
def Obligations.RenderLine : Prop :=
  ∀ (p q : Ppu) (x : Nat), Rows.Canonical p.fb → Rows.Canonical p.ci →
    p.lcdc.getLsbD 7 = true → p.mode = .pixelTransfer → p.dot = 251 → x < 160 →
    q = p.cycle 1 →
    (∀ c : Nat, c = (if p.lcdc.getLsbD 0 then bgIndex p p.ly x else 0) →
      (q.ci.row p.ly).pixel x = BitVec.ofNat 2 c ∧
      q.pixel x p.ly = Config.palette
        (((selectedSprites p p.ly).findSome? (spriteShade p p.ly x c)).getD
          (if p.lcdc.getLsbD 0 then shadeOf p.bgp c else 0#2))) ∧
    (∀ y, y ≠ p.ly → q.pixel x y = p.pixel x y ∧ (q.ci.row y).pixel x = (p.ci.row y).pixel x)

/-! The APU. -/

/-- The master switch (R407) and the writes that are ignored, or not, while it is off (R392). -/
def Obligations.ApuSwitch : Prop :=
  ∀ (s : State) (a : Word) (v : Byte) (t : Apu), t = (write8 s a v).apu →
    ((read8 s 0xFF26#16).toNat = 128 * s.apu.master.toNat + 0x70 + 8 * s.apu.ch4.enabled.toNat +
      4 * s.apu.ch3.enabled.toNat + 2 * s.apu.ch2.enabled.toNat + s.apu.ch1.enabled.toNat) ∧
    (within 0xFF10 0xFF40 a = true → write8 s a v = { s with apu := t }) ∧
    (a = 0xFF26#16 →
      (s.apu.master = true ∧ v.getLsbD 7 = false →
        t = { s.apu with
          master := false, nr50 := 0#8, nr51 := 0#8,
          ch1 := ⟨false, s.apu.ch1.length, false, 0, 0#11, 0#2, 0#3, ⟨0#4, false, 0#3, 0, 0, false⟩⟩,
          sweep := ⟨0#3, false, 0#3, 0#11, 0, false⟩,
          ch2 := ⟨false, s.apu.ch2.length, false, 0, 0#11, 0#2, 0#3, ⟨0#4, false, 0#3, 0, 0, false⟩⟩,
          ch3 := ⟨false, s.apu.ch3.length, false, 0, 0#11, false, 0#2, 0#5⟩,
          ch4 := ⟨false, s.apu.ch4.length, false, 0, ⟨0#4, false, 0#3, 0, 0, false⟩, 0#4, false, 0#3,
            s.apu.ch4.lfsr⟩ }) ∧
      (s.apu.master = false ∧ v.getLsbD 7 = true →
        t = { s.apu with master := true, fsAcc := 0, fsPhase := 0#3 }) ∧
      (s.apu.master = v.getLsbD 7 → t = s.apu)) ∧
    (s.apu.master = false → within 0xFF10 0xFF26 a = true →
      t = { s.apu with
        ch1 := { s.apu.ch1 with length := if a = 0xFF11#16 then 64 - v.toNat % 64 else s.apu.ch1.length },
        ch2 := { s.apu.ch2 with length := if a = 0xFF16#16 then 64 - v.toNat % 64 else s.apu.ch2.length },
        ch3 := { s.apu.ch3 with length := if a = 0xFF1B#16 then 256 - v.toNat else s.apu.ch3.length },
        ch4 := { s.apu.ch4 with length := if a = 0xFF20#16 then 64 - v.toNat % 64 else s.apu.ch4.length } }) ∧
    (within 0xFF30 0xFF40 a = true → read8 (write8 s a v) a = v ∧ t = { s.apu with waveRam := t.waveRam })

/-- One frame-sequencer event (R411): the length counters (R412), the envelope of channel 4 (R413), and the overflow that
disables channel 1 at a sweep tick (R415). -/
def Obligations.FrameSequencer : Prop :=
  ∀ (par : Config.Audio) (depth n : Nat) (a b : Apu), a.Inv → a.master = true → n ≤ 24 →
    b = a.cycle par depth n →
    (a.fsAcc + n < 8192 → b.fsAcc = a.fsAcc + n ∧ b.fsPhase = a.fsPhase ∧ b.ch2.length = a.ch2.length ∧
      b.ch3.length = a.ch3.length ∧ b.ch4.length = a.ch4.length ∧ b.ch4.env = a.ch4.env ∧ b.sweep = a.sweep ∧
      b.ch1.enabled = a.ch1.enabled) ∧
    (8192 ≤ a.fsAcc + n →
      b.fsAcc = a.fsAcc + n - 8192 ∧ b.fsPhase.toNat = (a.fsPhase.toNat + 1) % 8 ∧
      (a.fsPhase.toNat % 2 = 0 →
        (a.ch1.lengthEn = true ∧ 0 < a.ch1.length →
          b.ch1.length = a.ch1.length - 1 ∧ (a.ch1.length = 1 → b.ch1.enabled = false)) ∧
        (a.ch2.lengthEn = true ∧ 0 < a.ch2.length →
          b.ch2.length = a.ch2.length - 1 ∧ b.ch2.enabled = (a.ch2.enabled && decide (a.ch2.length ≠ 1))) ∧
        (a.ch3.lengthEn = true ∧ 0 < a.ch3.length →
          b.ch3.length = a.ch3.length - 1 ∧ b.ch3.enabled = (a.ch3.enabled && decide (a.ch3.length ≠ 1))) ∧
        (a.ch4.lengthEn = true ∧ 0 < a.ch4.length →
          b.ch4.length = a.ch4.length - 1 ∧ b.ch4.enabled = (a.ch4.enabled && decide (a.ch4.length ≠ 1)))) ∧
      (a.fsPhase.toNat % 2 = 1 ∨ a.ch1.lengthEn = false ∨ a.ch1.length = 0 → b.ch1.length = a.ch1.length) ∧
      (a.fsPhase.toNat % 2 = 1 ∨ a.ch2.lengthEn = false ∨ a.ch2.length = 0 →
        b.ch2.length = a.ch2.length ∧ b.ch2.enabled = a.ch2.enabled) ∧
      (a.fsPhase.toNat % 2 = 1 ∨ a.ch3.lengthEn = false ∨ a.ch3.length = 0 →
        b.ch3.length = a.ch3.length ∧ b.ch3.enabled = a.ch3.enabled) ∧
      (a.fsPhase.toNat % 2 = 1 ∨ a.ch4.lengthEn = false ∨ a.ch4.length = 0 →
        b.ch4.length = a.ch4.length ∧ b.ch4.enabled = a.ch4.enabled) ∧
      (a.fsPhase.toNat = 7 ∧ a.ch4.env.running = true ∧ 0 < a.ch4.env.period.toNat →
        (1 < a.ch4.env.timer → b.ch4.env = { a.ch4.env with timer := a.ch4.env.timer - 1 }) ∧
        (a.ch4.env.timer ≤ 1 →
          b.ch4.env = { a.ch4.env with
            timer := a.ch4.env.period.toNat,
            volume := if a.ch4.env.up then min 15 (a.ch4.env.volume + 1) else a.ch4.env.volume - 1,
            running := if a.ch4.env.up then decide (a.ch4.env.volume < 15) else decide (0 < a.ch4.env.volume) })) ∧
      (a.fsPhase.toNat = 2 ∨ a.fsPhase.toNat = 6 →
        a.sweep.timer ≤ 1 → a.sweep.enabled = true → 0 < a.sweep.period.toNat → a.sweep.down = false →
        2047 < a.sweep.shadow.toNat + a.sweep.shadow.toNat / 2 ^ a.sweep.shift.toNat → b.ch1.enabled = false))

/-! The Joypad. -/

/-- P1 (R304) and the Joypad's interrupt, on a write of P1 and on a button snapshot (R305). -/
def Obligations.JoypadLines : Prop :=
  ∀ (s : State) (v : Byte) (b : Buttons),
    (∀ k, k < 8 → (read8 s 0xFF00#16).getLsbD k =
      (if k = 0 then !((!s.joypad.select.getLsbD 0 && s.joypad.buttons.right) ||
          (!s.joypad.select.getLsbD 1 && s.joypad.buttons.a))
       else if k = 1 then !((!s.joypad.select.getLsbD 0 && s.joypad.buttons.left) ||
          (!s.joypad.select.getLsbD 1 && s.joypad.buttons.b))
       else if k = 2 then !((!s.joypad.select.getLsbD 0 && s.joypad.buttons.up) ||
          (!s.joypad.select.getLsbD 1 && s.joypad.buttons.select))
       else if k = 3 then !((!s.joypad.select.getLsbD 0 && s.joypad.buttons.down) ||
          (!s.joypad.select.getLsbD 1 && s.joypad.buttons.start))
       else if k = 4 then s.joypad.select.getLsbD 0 else if k = 5 then s.joypad.select.getLsbD 1 else true)) ∧
    (∀ t, t = write8 s 0xFF00#16 v ∨ t = applyEvent s (.buttons b) →
      t = { s with joypad := t.joypad } ∧
      t.joypad.intMask =
        (if read8 s 0xFF00#16 &&& ~~~read8 t 0xFF00#16 &&& 0x0F#8 = 0#8 then s.joypad.intMask
         else s.joypad.intMask ||| 0b10000#5)) ∧
    (write8 s 0xFF00#16 v).joypad.select = BitVec.ofNat 2 (v.toNat / 16 % 4) ∧
    (write8 s 0xFF00#16 v).joypad.buttons = s.joypad.buttons ∧
    (applyEvent s (.buttons b)).joypad.select = s.joypad.select ∧ (applyEvent s (.buttons b)).joypad.buttons = b

/-! The cartridge. -/

/-- MBC1: its registers, its ROM banks and its RAM (R105, R106, R107). -/
def Obligations.Mbc1 : Prop :=
  ∀ (s : State) (en : Bool) (lo : BitVec 5) (hi : BitVec 2) (mode : Bool) (a : Word) (v : Byte),
    s.cart.mbc = .mbc1 en lo hi mode →
    (a.toNat < 0x2000 →
      (write8 s a v).cart = { s.cart with mbc := .mbc1 (decide (v.toNat % 16 = 0xA)) lo hi mode }) ∧
    (0x2000 ≤ a.toNat ∧ a.toNat < 0x4000 →
      (write8 s a v).cart = { s.cart with mbc :=
        (.mbc1 en (BitVec.ofNat 5 (if v.toNat % 32 = 0 then 1 else v.toNat % 32)) hi mode) }) ∧
    (0x4000 ≤ a.toNat ∧ a.toNat < 0x6000 →
      (write8 s a v).cart = { s.cart with mbc := .mbc1 en lo (BitVec.ofNat 2 (v.toNat % 4)) mode }) ∧
    (0x6000 ≤ a.toNat ∧ a.toNat < 0x8000 →
      (write8 s a v).cart = { s.cart with mbc := .mbc1 en lo hi (decide (v.toNat % 2 = 1)) }) ∧
    (a.toNat < 0x4000 → read8 s a = s.cart.romByte (a.toNat % s.cart.romLen)) ∧
    (0x4000 ≤ a.toNat ∧ a.toNat < 0x8000 →
      read8 s a = s.cart.romByte
        (((if mode then lo.toNat else 32 * hi.toNat + lo.toNat) * 0x4000 + (a.toNat - 0x4000)) % s.cart.romLen)) ∧
    (0xA000 ≤ a.toNat ∧ a.toNat < 0xC000 →
      (en = false ∨ s.cart.ramLen = 0 → read8 s a = 0xFF#8 ∧ write8 s a v = s) ∧
      (en = true → 0 < s.cart.ramLen →
        ∀ o, o = ((if 8192 < s.cart.ramLen ∧ mode = true then hi.toNat else 0) * 0x2000 + (a.toNat - 0xA000)) %
            s.cart.ramLen →
          read8 s a = s.cart.ram.read .extRam o ∧ read8 (write8 s a v) a = v ∧
          (write8 s a v).cart = { s.cart with ram := s.cart.ram.write o v, dirty := true }))

/-- MBC2: its register pair, its ROM banks and its 512 nibbles (R110, R111, R112). -/
def Obligations.Mbc2 : Prop :=
  ∀ (s : State) (en : Bool) (bank : BitVec 4) (a : Word) (v : Byte), s.cart.mbc = .mbc2 en bank →
    (a.toNat < 0x4000 ∧ a.toNat / 256 % 2 = 0 →
      (write8 s a v).cart = { s.cart with mbc := .mbc2 (decide (v.toNat % 16 = 0xA)) bank }) ∧
    (a.toNat < 0x4000 ∧ a.toNat / 256 % 2 = 1 →
      (write8 s a v).cart = { s.cart with mbc :=
        (.mbc2 en (BitVec.ofNat 4 (if v.toNat % 16 = 0 then 1 else v.toNat % 16))) }) ∧
    (0x4000 ≤ a.toNat ∧ a.toNat < 0x8000 → write8 s a v = s ∧
      read8 s a = s.cart.romByte ((bank.toNat * 0x4000 + (a.toNat - 0x4000)) % s.cart.romLen)) ∧
    (0xA000 ≤ a.toNat ∧ a.toNat < 0xC000 →
      (en = false → read8 s a = 0xFF#8 ∧ write8 s a v = s) ∧
      (en = true →
        (read8 s a).toNat = 0xF0 + (s.cart.ram.read .extRam ((a.toNat - 0xA000) % 512)).toNat % 16 ∧
        (read8 (write8 s a v) a).toNat = 0xF0 + v.toNat % 16 ∧
        (write8 s a v).cart = { s.cart with
          ram := s.cart.ram.write ((a.toNat - 0xA000) % 512) (BitVec.ofNat 8 (v.toNat % 16)), dirty := true }))

/-- MBC3: its registers, the clock latch, its ROM banks, and RAM or clock access by `sel` (R113, R114, R115). -/
def Obligations.Mbc3 : Prop :=
  ∀ (s : State) (en : Bool) (bank : BitVec 7) (sel prev : Byte) (rtc latched : Rtc) (a : Word) (v : Byte),
    s.cart.mbc = .mbc3 en bank sel prev rtc latched →
    (a.toNat < 0x2000 →
      (write8 s a v).cart.mbc = .mbc3 (decide (v.toNat % 16 = 0xA)) bank sel prev rtc latched) ∧
    (0x2000 ≤ a.toNat ∧ a.toNat < 0x4000 →
      (write8 s a v).cart.mbc = .mbc3 en (BitVec.ofNat 7 (if v.toNat % 128 = 0 then 1 else v.toNat % 128)) sel prev
        rtc latched) ∧
    (0x4000 ≤ a.toNat ∧ a.toNat < 0x6000 →
      (write8 s a v).cart.mbc = .mbc3 en bank v prev rtc latched) ∧
    (0x6000 ≤ a.toNat ∧ a.toNat < 0x8000 →
      (write8 s a v).cart.mbc = .mbc3 en bank sel v rtc (if prev = 0x00#8 ∧ v = 0x01#8 then rtc else latched)) ∧
    (0x4000 ≤ a.toNat ∧ a.toNat < 0x8000 →
      read8 s a = s.cart.romByte ((bank.toNat * 0x4000 + (a.toNat - 0x4000)) % s.cart.romLen)) ∧
    (0xA000 ≤ a.toNat ∧ a.toNat < 0xC000 →
      (en = false → read8 s a = 0xFF#8 ∧ write8 s a v = s) ∧
      (en = true →
        (sel.toNat ≤ 3 → 0 < s.cart.ramLen →
          ∀ o, o = (sel.toNat * 0x2000 + (a.toNat - 0xA000)) % s.cart.ramLen →
            read8 s a = s.cart.ram.read .extRam o ∧
            (write8 s a v).cart = { s.cart with ram := s.cart.ram.write o v, dirty := true }) ∧
        (sel = 0x08#8 → read8 s a = latched.seconds ∧
          (write8 s a v).cart.mbc = .mbc3 en bank sel prev { rtc with seconds := v } latched) ∧
        (sel = 0x09#8 → read8 s a = latched.minutes ∧
          (write8 s a v).cart.mbc = .mbc3 en bank sel prev { rtc with minutes := v } latched) ∧
        (sel = 0x0A#8 → read8 s a = latched.hours ∧
          (write8 s a v).cart.mbc = .mbc3 en bank sel prev { rtc with hours := v } latched) ∧
        (sel = 0x0B#8 → read8 s a = latched.dayLow ∧
          (write8 s a v).cart.mbc = .mbc3 en bank sel prev { rtc with dayLow := v } latched) ∧
        (sel = 0x0C#8 → read8 s a = latched.dayHigh ∧
          (write8 s a v).cart.mbc = .mbc3 en bank sel prev { rtc with dayHigh := v } latched) ∧
        (0x0C < sel.toNat ∨ (3 < sel.toNat ∧ sel.toNat < 8) ∨ (sel.toNat ≤ 3 ∧ s.cart.ramLen = 0) →
          read8 s a = 0xFF#8 ∧ write8 s a v = s)))

/-! Invariants. -/

/-- `F[3:0] = 0` (R24) is kept by every step. -/
def Obligations.FlagsStayClean : Prop :=
  ∀ s t : State, s.cpu.FlagsClean → step s = .next t → t.cpu.FlagsClean

/-- Every byte store stays in its canonical form (the model's own invariant). -/
def Obligations.MemoriesStayCanonical : Prop :=
  ∀ s t : State, s.MemoriesCanonical → Rows.Canonical s.ppu.fb → Rows.Canonical s.ppu.ci → s.ppu.Inv →
    step s = .next t → t.MemoriesCanonical ∧ Rows.Canonical t.ppu.fb ∧ Rows.Canonical t.ppu.ci

/-- The PPU's line, dot and mode agree, and `lyc_flag = (ly = lyc)`, in every state (R353). -/
def Obligations.PpuStaysConsistent : Prop :=
  ∀ s t : State, s.ppu.Inv → step s = .next t → t.ppu.Inv

/-- The APU's counters stay in the ranges of R390, and with the master switch off it stays silent (R407). -/
def Obligations.ApuStaysInRange : Prop :=
  ∀ s t : State, s.apu.Inv → s.apu.SilentWhenOff → step s = .next t → t.apu.Inv ∧ t.apu.SilentWhenOff

/-- The ROM bank outside the fixed bank is never 0 (R103), and no step changes the ROM or the size of the RAM. -/
def Obligations.CartridgeStaysSound : Prop :=
  ∀ s t : State, s.cart.mbc.BankNonzero → step s = .next t →
    t.cart.mbc.BankNonzero ∧ 1 ≤ t.cart.mbc.romBank ∧ t.cart.rom = s.cart.rom ∧ t.cart.romLen = s.cart.romLen ∧
      t.cart.ramLen = s.cart.ramLen

/-- Each device raises only its own sources, and none raises Serial: the devices never set `IF` bit 3 (R303). -/
def Obligations.SerialNeverRaised : Prop :=
  (∀ s t : State, s.MasksInRange → step s = .next t → t.MasksInRange) ∧
  (∀ (s : State) (n : Nat), s.MasksInRange → (busCycle n s).bus.ifReg.getLsbD 3 = s.bus.ifReg.getLsbD 3)

/-- The invariants hold after power-on and after every reset. -/
def Obligations.InvariantsAtReset : Prop :=
  State.reset.cpu.FlagsClean ∧ State.reset.MemoriesCanonical ∧ Rows.Canonical State.reset.ppu.fb ∧
    Rows.Canonical State.reset.ppu.ci ∧ State.reset.ppu.Inv ∧ State.reset.apu.Inv ∧
    State.reset.apu.SilentWhenOff ∧ State.reset.cart.mbc.BankNonzero ∧ State.reset.MasksInRange
end

