-- ==== Sys2Proof/Laws/Memory.lean ====
section
/-! SUPPORT. The byte stores: reading after writing, and that every operation keeps the canonical form. -/

namespace Sys2Proof.Machine

open Sys2Proof

/-- Reading the offset just written. -/
@[simp] theorem Memory.byte?_put_same (m : Memory) (k : Nat) (v : Byte) : (m.put k v).byte? k = some v := by
  induction m with
  | nil => simp [Memory.put, Memory.byte?]
  | cons c m ih =>
    obtain ⟨j, b⟩ := c
    simp only [Memory.put]
    split
    · simp [Memory.byte?]
    · split
      · simp [Memory.byte?]
      · simp only [Memory.byte?]
        rw [if_neg (by omega)]
        exact ih

/-- Reading another offset than the one written. -/
theorem Memory.byte?_put_ne (m : Memory) {j k : Nat} (v : Byte) (h : j ≠ k) : (m.put k v).byte? j = m.byte? j := by
  induction m with
  | nil => simp [Memory.put, Memory.byte?]; omega
  | cons c m ih =>
    obtain ⟨i, b⟩ := c
    simp only [Memory.put]
    split
    · simp only [Memory.byte?]
      rw [if_neg (by omega)]
    · split
      · simp only [Memory.byte?]
        subst_vars
        rw [if_neg (by omega), if_neg (by omega)]
      · simp only [Memory.byte?]
        rw [ih]

/-- Every entry of a store after a write is the written one or an old one. -/
theorem Memory.mem_put {m : Memory} {k : Nat} {v : Byte} {c : Host.Cell} (h : c ∈ m.put k v) :
    c = (k, v) ∨ c ∈ m := by
  induction m with
  | nil => simpa [Memory.put] using h
  | cons d m ih =>
    obtain ⟨j, b⟩ := d
    simp only [Memory.put] at h
    split at h
    · simpa using h
    · split at h
      · rcases List.mem_cons.1 h with rfl | h
        · exact .inl rfl
        · exact .inr (List.mem_cons_of_mem _ h)
      · rcases List.mem_cons.1 h with rfl | h
        · exact .inr (List.mem_cons_self ..)
        · rcases ih h with h | h
          · exact .inl h
          · exact .inr (List.mem_cons_of_mem _ h)

/-- A write keeps the canonical form. -/
theorem Memory.wf_put {m : Memory} (h : Memory.wf m) (k : Nat) (v : Byte) : Memory.wf (m.put k v) := by
  induction m with
  | nil => simp [Memory.put]
  | cons c m ih =>
    obtain ⟨j, b⟩ := c
    obtain ⟨hj, hm⟩ := List.pairwise_cons.1 h
    simp only [Memory.put]
    split
    · refine List.pairwise_cons.2 ⟨?_, h⟩
      intro d hd
      rcases List.mem_cons.1 hd with rfl | hd
      · assumption
      · exact Nat.lt_trans ‹k < j› (hj d hd)
    · split
      · subst_vars
        exact List.pairwise_cons.2 ⟨hj, hm⟩
      · refine List.pairwise_cons.2 ⟨?_, ih hm⟩
        intro d hd
        rcases Memory.mem_put hd with rfl | hd
        · simp only; omega
        · exact hj d hd

/-- The offsets of consecutive bytes. -/
theorem Memory.mem_ofBytes {data : List Byte} {k : Nat} {c : Host.Cell} (h : c ∈ Memory.ofBytes k data) :
    k ≤ c.1 ∧ c.1 < k + data.length := by
  induction data generalizing k with
  | nil => simp [Memory.ofBytes] at h
  | cons v data ih =>
    rcases List.mem_cons.1 (show c ∈ (k, v) :: Memory.ofBytes (k + 1) data from h) with rfl | h
    · simp
    · have := ih h
      simp only [List.length_cons]
      omega

/-- Consecutive bytes are in canonical form. -/
theorem Memory.wf_ofBytes (k : Nat) (data : List Byte) : Memory.wf (Memory.ofBytes k data) := by
  induction data generalizing k with
  | nil => exact List.Pairwise.nil
  | cons v data ih =>
    refine List.pairwise_cons.2 ⟨fun c hc => ?_, ih (k + 1)⟩
    have := Memory.mem_ofBytes hc
    simp only
    omega

/-- Replacing the first bytes keeps the canonical form. -/
theorem Memory.wf_overwrite {m : Memory} (h : Memory.wf m) (data : List Byte) : Memory.wf (m.overwrite data) := by
  refine List.pairwise_append.2 ⟨Memory.wf_ofBytes 0 data, List.Pairwise.filter _ h, ?_⟩
  intro c hc d hd
  have := Memory.mem_ofBytes hc
  have := of_decide_eq_true (List.mem_filter.1 hd).2
  omega

/-- A RAM byte read after it is written. -/
@[simp] theorem Ram.read_write_same (g : Config.Region) (r : Ram) (k : Nat) (v : Byte) :
    (r.write k v).read g k = v := by
  simp [Ram.read, Ram.write]

/-- A RAM byte read after another is written. -/
theorem Ram.read_write_ne (g : Config.Region) (r : Ram) {j k : Nat} (v : Byte) (h : j ≠ k) :
    (r.write k v).read g j = r.read g j := by
  simp [Ram.read, Ram.write, Memory.byte?_put_ne _ _ h]

@[simp] theorem Ram.write_epoch (r : Ram) (k : Nat) (v : Byte) : (r.write k v).epoch = r.epoch := rfl

@[simp] theorem Ram.write_cells (r : Ram) (k : Nat) (v : Byte) : (r.write k v).cells = r.cells.put k v := rfl

/-! The line buffers. -/

/-- A listed line read back. -/
theorem Rows.row_insert_same (m : Rows) (y : Nat) (r : Row) : (m.insert y r).row y = r := by
  induction m with
  | nil => simp [Rows.insert, Rows.row]
  | cons c m ih =>
    obtain ⟨j, q⟩ := c
    simp only [Rows.insert]
    split
    · simp [Rows.row]
    · split
      · simp [Rows.row]
      · simp only [Rows.row]
        rw [if_neg (by omega)]
        exact ih

/-- Another line than the one inserted. -/
theorem Rows.row_insert_ne (m : Rows) {x y : Nat} (r : Row) (h : x ≠ y) : (m.insert y r).row x = m.row x := by
  induction m with
  | nil => simp [Rows.insert, Rows.row]; omega
  | cons c m ih =>
    obtain ⟨j, q⟩ := c
    simp only [Rows.insert]
    split
    · simp only [Rows.row]
      rw [if_neg (by omega)]
    · split
      · simp only [Rows.row]
        subst_vars
        rw [if_neg (by omega), if_neg (by omega)]
      · simp only [Rows.row]
        rw [ih]

/-- Another line than the one dropped. -/
theorem Rows.row_drop_ne (m : Rows) {x y : Nat} (h : x ≠ y) : (m.drop y).row x = m.row x := by
  induction m with
  | nil => simp [Rows.drop, Rows.row]
  | cons c m ih =>
    obtain ⟨j, q⟩ := c
    simp only [Rows.drop]
    split
    · simp only [Rows.row]
      subst_vars
      rw [if_neg (by omega)]
    · simp only [Rows.row]
      rw [ih]

/-- Another line than the one written. -/
theorem Rows.row_put_ne (m : Rows) {x y : Nat} (r : Row) (h : x ≠ y) : (m.put y r).row x = m.row x := by
  unfold Rows.put
  split
  · exact Rows.row_drop_ne m h
  · exact Rows.row_insert_ne m r h

end Sys2Proof.Machine
end

