-- ==== Sys2Proof/Laws/State.lean ====
section
/-! SUPPORT. One lemma for each field under each update of the state and of the register file, true by `rfl`, so that no
proof unfolds a record update. -/

namespace Sys2Proof.Machine

open Sys2Proof

/-! Updates of the whole state. -/
@[simp] theorem State.setCpu_bus (s : State) (c : Cpu) : (s.setCpu c).bus = s.bus := rfl
@[simp] theorem State.setCpu_timer (s : State) (c : Cpu) : (s.setCpu c).timer = s.timer := rfl
@[simp] theorem State.setCpu_ppu (s : State) (c : Cpu) : (s.setCpu c).ppu = s.ppu := rfl
@[simp] theorem State.setCpu_apu (s : State) (c : Cpu) : (s.setCpu c).apu = s.apu := rfl
@[simp] theorem State.setCpu_joypad (s : State) (c : Cpu) : (s.setCpu c).joypad = s.joypad := rfl
@[simp] theorem State.setCpu_cart (s : State) (c : Cpu) : (s.setCpu c).cart = s.cart := rfl
@[simp] theorem State.setCpu_inputs (s : State) (c : Cpu) : (s.setCpu c).inputs = s.inputs := rfl
@[simp] theorem State.setCpu_sinkPending (s : State) (c : Cpu) : (s.setCpu c).sinkPending = s.sinkPending := rfl
@[simp] theorem State.onCpu_bus (s : State) (f : Cpu → Cpu) : (s.onCpu f).bus = s.bus := rfl
@[simp] theorem State.onCpu_timer (s : State) (f : Cpu → Cpu) : (s.onCpu f).timer = s.timer := rfl
@[simp] theorem State.onCpu_ppu (s : State) (f : Cpu → Cpu) : (s.onCpu f).ppu = s.ppu := rfl
@[simp] theorem State.onCpu_apu (s : State) (f : Cpu → Cpu) : (s.onCpu f).apu = s.apu := rfl
@[simp] theorem State.onCpu_joypad (s : State) (f : Cpu → Cpu) : (s.onCpu f).joypad = s.joypad := rfl
@[simp] theorem State.onCpu_cart (s : State) (f : Cpu → Cpu) : (s.onCpu f).cart = s.cart := rfl
@[simp] theorem State.onCpu_inputs (s : State) (f : Cpu → Cpu) : (s.onCpu f).inputs = s.inputs := rfl
@[simp] theorem State.onCpu_sinkPending (s : State) (f : Cpu → Cpu) : (s.onCpu f).sinkPending = s.sinkPending := rfl
@[simp] theorem State.setSp_bus (s : State) (v : Word) : (s.setSp v).bus = s.bus := rfl
@[simp] theorem State.setSp_timer (s : State) (v : Word) : (s.setSp v).timer = s.timer := rfl
@[simp] theorem State.setSp_ppu (s : State) (v : Word) : (s.setSp v).ppu = s.ppu := rfl
@[simp] theorem State.setSp_apu (s : State) (v : Word) : (s.setSp v).apu = s.apu := rfl
@[simp] theorem State.setSp_joypad (s : State) (v : Word) : (s.setSp v).joypad = s.joypad := rfl
@[simp] theorem State.setSp_cart (s : State) (v : Word) : (s.setSp v).cart = s.cart := rfl
@[simp] theorem State.setSp_inputs (s : State) (v : Word) : (s.setSp v).inputs = s.inputs := rfl
@[simp] theorem State.setSp_sinkPending (s : State) (v : Word) : (s.setSp v).sinkPending = s.sinkPending := rfl
@[simp] theorem State.setPc_bus (s : State) (v : Word) : (s.setPc v).bus = s.bus := rfl
@[simp] theorem State.setPc_timer (s : State) (v : Word) : (s.setPc v).timer = s.timer := rfl
@[simp] theorem State.setPc_ppu (s : State) (v : Word) : (s.setPc v).ppu = s.ppu := rfl
@[simp] theorem State.setPc_apu (s : State) (v : Word) : (s.setPc v).apu = s.apu := rfl
@[simp] theorem State.setPc_joypad (s : State) (v : Word) : (s.setPc v).joypad = s.joypad := rfl
@[simp] theorem State.setPc_cart (s : State) (v : Word) : (s.setPc v).cart = s.cart := rfl
@[simp] theorem State.setPc_inputs (s : State) (v : Word) : (s.setPc v).inputs = s.inputs := rfl
@[simp] theorem State.setPc_sinkPending (s : State) (v : Word) : (s.setPc v).sinkPending = s.sinkPending := rfl
@[simp] theorem State.spend_bus (s : State) (n : Nat) : (s.spend n).bus = s.bus := rfl
@[simp] theorem State.spend_timer (s : State) (n : Nat) : (s.spend n).timer = s.timer := rfl
@[simp] theorem State.spend_ppu (s : State) (n : Nat) : (s.spend n).ppu = s.ppu := rfl
@[simp] theorem State.spend_apu (s : State) (n : Nat) : (s.spend n).apu = s.apu := rfl
@[simp] theorem State.spend_joypad (s : State) (n : Nat) : (s.spend n).joypad = s.joypad := rfl
@[simp] theorem State.spend_cart (s : State) (n : Nat) : (s.spend n).cart = s.cart := rfl
@[simp] theorem State.spend_inputs (s : State) (n : Nat) : (s.spend n).inputs = s.inputs := rfl
@[simp] theorem State.spend_sinkPending (s : State) (n : Nat) : (s.spend n).sinkPending = s.sinkPending := rfl
@[simp] theorem State.setCpu_cpu (s : State) (c : Cpu) : (s.setCpu c).cpu = c := rfl

@[simp] theorem State.setCpu_setCpu (s : State) (c d : Cpu) : (s.setCpu c).setCpu d = s.setCpu d := rfl

@[simp] theorem State.setCpu_self (s : State) : s.setCpu s.cpu = s := rfl

@[simp] theorem State.onCpu_cpu (s : State) (f : Cpu → Cpu) : (s.onCpu f).cpu = f s.cpu := rfl
@[simp] theorem State.setSp_cpu (s : State) (v : Word) : (s.setSp v).cpu = { s.cpu with sp := v } := rfl
@[simp] theorem State.setPc_cpu (s : State) (v : Word) : (s.setPc v).cpu = { s.cpu with pc := v } := rfl
@[simp] theorem State.spend_cpu (s : State) (n : Nat) : (s.spend n).cpu = s.cpu.spend n := rfl

/-- A state is its parts: equality field by field. -/
theorem State.ext_parts {s t : State} (hc : s.cpu = t.cpu) (hb : s.bus = t.bus) (ht : s.timer = t.timer)
    (hp : s.ppu = t.ppu) (ha : s.apu = t.apu) (hj : s.joypad = t.joypad) (hk : s.cart = t.cart)
    (hi : s.inputs = t.inputs) (hs : s.sinkPending = t.sinkPending) : s = t := by
  cases s; cases t; simp_all

/-! The register file. -/

@[simp] theorem Cpu.spend_a (n : Nat) (p : Cpu) : (p.spend n).a = p.a := rfl
@[simp] theorem Cpu.spend_f (n : Nat) (p : Cpu) : (p.spend n).f = p.f := rfl
@[simp] theorem Cpu.spend_b (n : Nat) (p : Cpu) : (p.spend n).b = p.b := rfl
@[simp] theorem Cpu.spend_c (n : Nat) (p : Cpu) : (p.spend n).c = p.c := rfl
@[simp] theorem Cpu.spend_d (n : Nat) (p : Cpu) : (p.spend n).d = p.d := rfl
@[simp] theorem Cpu.spend_e (n : Nat) (p : Cpu) : (p.spend n).e = p.e := rfl
@[simp] theorem Cpu.spend_h (n : Nat) (p : Cpu) : (p.spend n).h = p.h := rfl
@[simp] theorem Cpu.spend_l (n : Nat) (p : Cpu) : (p.spend n).l = p.l := rfl
@[simp] theorem Cpu.spend_sp (n : Nat) (p : Cpu) : (p.spend n).sp = p.sp := rfl
@[simp] theorem Cpu.spend_pc (n : Nat) (p : Cpu) : (p.spend n).pc = p.pc := rfl
@[simp] theorem Cpu.spend_ime (n : Nat) (p : Cpu) : (p.spend n).ime = p.ime := rfl
@[simp] theorem Cpu.spend_eiPending (n : Nat) (p : Cpu) : (p.spend n).eiPending = p.eiPending := rfl
@[simp] theorem Cpu.spend_mode (n : Nat) (p : Cpu) : (p.spend n).mode = p.mode := rfl
@[simp] theorem Cpu.spend_fatalOp (n : Nat) (p : Cpu) : (p.spend n).fatalOp = p.fatalOp := rfl
@[simp] theorem Cpu.spend_fatalAddr (n : Nat) (p : Cpu) : (p.spend n).fatalAddr = p.fatalAddr := rfl
@[simp] theorem Cpu.spend_cycles (n : Nat) (p : Cpu) : (p.spend n).cycles = n := rfl
@[simp] theorem Cpu.setFlags_a (p : Cpu) (g : Flags) : (p.setFlags g).a = p.a := rfl
@[simp] theorem Cpu.setFlags_f (p : Cpu) (g : Flags) : (p.setFlags g).f = g.pack := rfl
@[simp] theorem Cpu.setFlags_b (p : Cpu) (g : Flags) : (p.setFlags g).b = p.b := rfl
@[simp] theorem Cpu.setFlags_c (p : Cpu) (g : Flags) : (p.setFlags g).c = p.c := rfl
@[simp] theorem Cpu.setFlags_d (p : Cpu) (g : Flags) : (p.setFlags g).d = p.d := rfl
@[simp] theorem Cpu.setFlags_e (p : Cpu) (g : Flags) : (p.setFlags g).e = p.e := rfl
@[simp] theorem Cpu.setFlags_h (p : Cpu) (g : Flags) : (p.setFlags g).h = p.h := rfl
@[simp] theorem Cpu.setFlags_l (p : Cpu) (g : Flags) : (p.setFlags g).l = p.l := rfl
@[simp] theorem Cpu.setFlags_sp (p : Cpu) (g : Flags) : (p.setFlags g).sp = p.sp := rfl
@[simp] theorem Cpu.setFlags_pc (p : Cpu) (g : Flags) : (p.setFlags g).pc = p.pc := rfl
@[simp] theorem Cpu.setFlags_ime (p : Cpu) (g : Flags) : (p.setFlags g).ime = p.ime := rfl
@[simp] theorem Cpu.setFlags_eiPending (p : Cpu) (g : Flags) : (p.setFlags g).eiPending = p.eiPending := rfl
@[simp] theorem Cpu.setFlags_mode (p : Cpu) (g : Flags) : (p.setFlags g).mode = p.mode := rfl
@[simp] theorem Cpu.setFlags_fatalOp (p : Cpu) (g : Flags) : (p.setFlags g).fatalOp = p.fatalOp := rfl
@[simp] theorem Cpu.setFlags_fatalAddr (p : Cpu) (g : Flags) : (p.setFlags g).fatalAddr = p.fatalAddr := rfl
@[simp] theorem Cpu.setFlags_cycles (p : Cpu) (g : Flags) : (p.setFlags g).cycles = p.cycles := rfl
@[simp] theorem Cpu.set8_f (p : Cpu) (r : Reg8) (v : Byte) : (p.set8 r v).f = p.f := by cases r <;> rfl
@[simp] theorem Cpu.set8_sp (p : Cpu) (r : Reg8) (v : Byte) : (p.set8 r v).sp = p.sp := by cases r <;> rfl
@[simp] theorem Cpu.set8_pc (p : Cpu) (r : Reg8) (v : Byte) : (p.set8 r v).pc = p.pc := by cases r <;> rfl
@[simp] theorem Cpu.set8_ime (p : Cpu) (r : Reg8) (v : Byte) : (p.set8 r v).ime = p.ime := by cases r <;> rfl
@[simp] theorem Cpu.set8_eiPending (p : Cpu) (r : Reg8) (v : Byte) : (p.set8 r v).eiPending = p.eiPending := by cases r <;> rfl
@[simp] theorem Cpu.set8_mode (p : Cpu) (r : Reg8) (v : Byte) : (p.set8 r v).mode = p.mode := by cases r <;> rfl
@[simp] theorem Cpu.set8_fatalOp (p : Cpu) (r : Reg8) (v : Byte) : (p.set8 r v).fatalOp = p.fatalOp := by cases r <;> rfl
@[simp] theorem Cpu.set8_fatalAddr (p : Cpu) (r : Reg8) (v : Byte) : (p.set8 r v).fatalAddr = p.fatalAddr := by cases r <;> rfl
@[simp] theorem Cpu.set8_cycles (p : Cpu) (r : Reg8) (v : Byte) : (p.set8 r v).cycles = p.cycles := by cases r <;> rfl
@[simp] theorem Cpu.setPair_pc (p : Cpu) (rp : Pair) (v : Word) : (p.setPair rp v).pc = p.pc := by cases rp <;> rfl
@[simp] theorem Cpu.setPair_ime (p : Cpu) (rp : Pair) (v : Word) : (p.setPair rp v).ime = p.ime := by cases rp <;> rfl
@[simp] theorem Cpu.setPair_eiPending (p : Cpu) (rp : Pair) (v : Word) : (p.setPair rp v).eiPending = p.eiPending := by cases rp <;> rfl
@[simp] theorem Cpu.setPair_mode (p : Cpu) (rp : Pair) (v : Word) : (p.setPair rp v).mode = p.mode := by cases rp <;> rfl
@[simp] theorem Cpu.setPair_fatalOp (p : Cpu) (rp : Pair) (v : Word) : (p.setPair rp v).fatalOp = p.fatalOp := by cases rp <;> rfl
@[simp] theorem Cpu.setPair_fatalAddr (p : Cpu) (rp : Pair) (v : Word) : (p.setPair rp v).fatalAddr = p.fatalAddr := by cases rp <;> rfl
@[simp] theorem Cpu.setPair_cycles (p : Cpu) (rp : Pair) (v : Word) : (p.setPair rp v).cycles = p.cycles := by cases rp <;> rfl

/-- A register read after it is written. -/
@[simp] theorem Cpu.get8_set8_same (p : Cpu) (r : Reg8) (v : Byte) : (p.set8 r v).get8 r = v := by cases r <;> rfl

/-- A register read after another is written. -/
theorem Cpu.get8_set8_ne (p : Cpu) {q r : Reg8} (v : Byte) (h : q ≠ r) : (p.set8 r v).get8 q = p.get8 q := by
  cases q <;> cases r <;> first | rfl | exact absurd rfl h

@[simp] theorem Cpu.get8_spend (p : Cpu) (n : Nat) (r : Reg8) : (p.spend n).get8 r = p.get8 r := by cases r <;> rfl

@[simp] theorem Cpu.get8_setFlags (p : Cpu) (g : Flags) (r : Reg8) : (p.setFlags g).get8 r = p.get8 r := by
  cases r <;> rfl

/-- A bit vector is its high part and its low part. -/
theorem append_parts {n m : Nat} (v : BitVec (n + m)) : v.extractLsb' m n ++ v.extractLsb' 0 m = v := by
  ext i hi
  simp [← BitVec.getLsbD_eq_getElem]

/-- The low part of an append. -/
theorem low_append {n m : Nat} (a : BitVec n) (b : BitVec m) : (a ++ b).extractLsb' 0 m = b := by
  ext i hi
  simp [BitVec.getLsbD_append, hi, BitVec.getLsbD_eq_getElem]

/-- The high part of an append. -/
theorem high_append {n m : Nat} (a : BitVec n) (b : BitVec m) : (a ++ b).extractLsb' m n = a := by
  ext i hi
  simp [BitVec.getLsbD_append, BitVec.getLsbD_eq_getElem, hi]

/-- A 16-bit value is its two bytes (10_state.md R21). -/
theorem hiByte_append_loByte (v : Word) : hiByte v ++ loByte v = v := append_parts (n := 8) (m := 8) v

@[simp] theorem loByte_append (a b : Byte) : loByte (a ++ b) = b := low_append a b

@[simp] theorem hiByte_append (a b : Byte) : hiByte (a ++ b) = a := high_append a b

/-- A pair other than `AF` read after it is written. -/
theorem Cpu.getPair_setPair_same (p : Cpu) {rp : Pair} (v : Word) (h : rp ≠ .af) : (p.setPair rp v).getPair rp = v := by
  cases rp with
  | bc => exact hiByte_append_loByte v
  | de => exact hiByte_append_loByte v
  | hl => exact hiByte_append_loByte v
  | sp => rfl
  | af => exact absurd rfl h

/-- `AF` read after it is written: the low nibble is zero (R24). -/
@[simp] theorem Cpu.getPair_setPair_af (p : Cpu) (v : Word) :
    (p.setPair .af v).getPair .af = hiByte v ++ (loByte v &&& 0xF0#8) := rfl

/-! Flags. -/

@[simp] theorem Flags.ofByte_pack (g : Flags) : Flags.ofByte g.pack = g := by
  obtain ⟨z, n, h, c⟩ := g
  revert z n h c
  decide

/-- A packed flags byte has a zero low nibble (R24). -/
@[simp] theorem Flags.pack_low (g : Flags) : g.pack &&& 0x0F#8 = 0#8 := by
  obtain ⟨z, n, h, c⟩ := g
  revert z n h c
  decide

/-- A byte with a zero low nibble is its four flags (R24). -/
theorem Flags.pack_ofByte (f : Byte) (h : f &&& 0x0F#8 = 0#8) : (Flags.ofByte f).pack = f := by
  revert f
  decide

@[simp] theorem Cpu.flags_setFlags (p : Cpu) (g : Flags) : (p.setFlags g).flags = g := Flags.ofByte_pack g

end Sys2Proof.Machine
end

