-- ==== Sys2Proof/Laws/Bus.lean ====
section
/-! SUPPORT. The bus: what a read looks at, what a write can change, reading after writing. -/

namespace Sys2Proof.Machine

open Sys2Proof

/-! The address decoder. -/

/-- Every offset the decoder gives is inside its array. -/
def Route.inBounds : Route → Prop
  | .rom k => k < 0x8000
  | .vram k => k < 8192
  | .ext k => 0xA000 ≤ k ∧ k < 0xC000
  | .wram k => k < 8192
  | .oam k => k < 160
  | .io k => k < 0x80
  | .hram k => k < 127
  | .unusable => True
  | .ie => True

theorem route_inBounds (a : Word) : (route a).inBounds := by
  have h := a.isLt
  unfold route
  simp only
  repeat' split
  all_goals simp only [Route.inBounds] <;> omega

/-- Work RAM's own addresses (20_memory.md R67): of the ranges of R63 the bounds leave one. -/
theorem route_wram {a : Word} (h : 0xC000 ≤ a.toNat) (h' : a.toNat < 0xE000) : route a = .wram (a.toNat - 0xC000) := by
  unfold route
  simp only
  repeat' split
  all_goals first | omega | rfl

/-- The echo (R68). -/
theorem route_echo {a : Word} (h : 0xE000 ≤ a.toNat) (h' : a.toNat < 0xFE00) : route a = .wram (a.toNat - 0xE000) := by
  unfold route
  simp only
  repeat' split
  all_goals first | omega | rfl

/-- High RAM (R71). -/
theorem route_hram {a : Word} (h : 0xFF80 ≤ a.toNat) (h' : a.toNat < 0xFFFF) : route a = .hram (a.toNat - 0xFF80) := by
  unfold route
  simp only
  repeat' split
  all_goals first | omega | rfl

/-- Work RAM and its echo are the only addresses routed to work RAM. -/
theorem route_eq_wram {a : Word} {k : Nat} (h : route a = .wram k) :
    (0xC000 ≤ a.toNat ∧ a.toNat < 0xE000 ∧ k = a.toNat - 0xC000) ∨
      (0xE000 ≤ a.toNat ∧ a.toNat < 0xFE00 ∧ k = a.toNat - 0xE000) := by
  unfold route at h
  simp only at h
  repeat' split at h
  all_goals first
    | (injection h with h; omega)
    | (exact absurd h (by simp))

/-- High RAM's addresses are the only ones routed to it. -/
theorem route_eq_hram {a : Word} {k : Nat} (h : route a = .hram k) :
    0xFF80 ≤ a.toNat ∧ a.toNat < 0xFFFF ∧ k = a.toNat - 0xFF80 := by
  unfold route at h
  simp only at h
  repeat' split at h
  all_goals first
    | (injection h with h; omega)
    | (exact absurd h (by simp))

/-! What a read looks at. -/

/-- A read does not look at the CPU. -/
@[simp] theorem read8_setCpu (s : State) (c : Cpu) (a : Word) : read8 (s.setCpu c) a = read8 s a := rfl

@[simp] theorem read8_spend (s : State) (n : Nat) (a : Word) : read8 (s.spend n) a = read8 s a := rfl

@[simp] theorem read8_setPc (s : State) (v a : Word) : read8 (s.setPc v) a = read8 s a := rfl

@[simp] theorem read8_setSp (s : State) (v a : Word) : read8 (s.setSp v) a = read8 s a := rfl

@[simp] theorem read8_onCpu (s : State) (f : Cpu → Cpu) (a : Word) : read8 (s.onCpu f) a = read8 s a := rfl

@[simp] theorem read16_setCpu (s : State) (c : Cpu) (a : Word) : read16 (s.setCpu c) a = read16 s a := rfl

/-! What a write can change. -/

/-- The DMA copy changes nothing but the PPU's OAM. -/
theorem dmaCopy_eq (n i : Nat) (base : Word) (s : State) :
    ∃ r : Ram, dmaCopy n i base s = { s with ppu := { s.ppu with oam := r } } := by
  induction n generalizing i s with
  | zero => exact ⟨s.ppu.oam, rfl⟩
  | succ n ih =>
    obtain ⟨r, h⟩ := ih (i + 1) { s with ppu := s.ppu.putOam i (read8 s (base + BitVec.ofNat 16 i)) }
    exact ⟨r, h⟩

/-- The DMA changes nothing but the DMA register and the PPU's OAM. -/
theorem oamDma_eq (s : State) (v : Byte) :
    ∃ r : Ram, oamDma s v = { s with bus := { s.bus with dmaReg := v }, ppu := { s.ppu with oam := r } } :=
  dmaCopy_eq 160 0 (v ++ 0x00#8) { s with bus := { s.bus with dmaReg := v } }

theorem oamDma_host (s : State) (v : Byte) :
    (oamDma s v).inputs = s.inputs ∧ (oamDma s v).sinkPending = s.sinkPending := by
  obtain ⟨r, h⟩ := oamDma_eq s v
  rw [h]
  exact ⟨rfl, rfl⟩

/-- The DMA copy does not look at the CPU. -/
theorem dmaCopy_setCpu (n i : Nat) (base : Word) (s : State) (c : Cpu) :
    dmaCopy n i base (s.setCpu c) = (dmaCopy n i base s).setCpu c := by
  induction n generalizing i s with
  | zero => rfl
  | succ n ih => exact ih (i + 1) { s with ppu := s.ppu.putOam i (read8 s (base + BitVec.ofNat 16 i)) }

theorem oamDma_setCpu (s : State) (c : Cpu) (v : Byte) : oamDma (s.setCpu c) v = (oamDma s v).setCpu c :=
  dmaCopy_setCpu 160 0 (v ++ 0x00#8) { s with bus := { s.bus with dmaReg := v } } c

/-- A register write neither looks at the CPU nor changes it. -/
theorem writePort_setCpu (s : State) (c : Cpu) (k : Nat) (v : Byte) :
    writePort (s.setCpu c) k v = (writePort s k v).setCpu c := by
  unfold writePort
  cases port k with
  | dma => exact oamDma_setCpu s c v
  | joypad => rfl
  | timer j => rfl
  | intFlag => rfl
  | sound j => rfl
  | video j => rfl
  | unmapped => rfl

/-- A write neither looks at the CPU nor changes it. -/
theorem write8_setCpu (s : State) (c : Cpu) (a : Word) (v : Byte) :
    write8 (s.setCpu c) a v = (write8 s a v).setCpu c := by
  unfold write8
  cases route a with
  | io k => exact writePort_setCpu s c k v
  | rom k => rfl
  | vram k => rfl
  | ext k => rfl
  | wram k => rfl
  | oam k => rfl
  | unusable => rfl
  | hram k => rfl
  | ie => rfl

@[simp] theorem write8_cpu (s : State) (a : Word) (v : Byte) : (write8 s a v).cpu = s.cpu := by
  have h : write8 s a v = (write8 s a v).setCpu s.cpu := write8_setCpu s s.cpu a v
  rw [h, State.setCpu_cpu]

/-- A register write leaves the host's side alone. -/
theorem writePort_host (s : State) (k : Nat) (v : Byte) :
    (writePort s k v).inputs = s.inputs ∧ (writePort s k v).sinkPending = s.sinkPending := by
  unfold writePort
  cases port k with
  | dma =>
    exact oamDma_host s v
  | joypad => exact ⟨rfl, rfl⟩
  | timer j => exact ⟨rfl, rfl⟩
  | intFlag => exact ⟨rfl, rfl⟩
  | sound j => exact ⟨rfl, rfl⟩
  | video j => exact ⟨rfl, rfl⟩
  | unmapped => exact ⟨rfl, rfl⟩

/-- A write leaves the host's side alone. -/
theorem write8_host (s : State) (a : Word) (v : Byte) :
    (write8 s a v).inputs = s.inputs ∧ (write8 s a v).sinkPending = s.sinkPending := by
  unfold write8
  cases route a with
  | io k => exact writePort_host s k v
  | rom k => exact ⟨rfl, rfl⟩
  | vram k => exact ⟨rfl, rfl⟩
  | ext k => exact ⟨rfl, rfl⟩
  | wram k => exact ⟨rfl, rfl⟩
  | oam k => exact ⟨rfl, rfl⟩
  | unusable => exact ⟨rfl, rfl⟩
  | hram k => exact ⟨rfl, rfl⟩
  | ie => exact ⟨rfl, rfl⟩

@[simp] theorem write8_inputs (s : State) (a : Word) (v : Byte) : (write8 s a v).inputs = s.inputs :=
  (write8_host s a v).1

@[simp] theorem write8_sinkPending (s : State) (a : Word) (v : Byte) :
    (write8 s a v).sinkPending = s.sinkPending := (write8_host s a v).2

theorem write16_setCpu (s : State) (c : Cpu) (a v : Word) :
    write16 (s.setCpu c) a v = (write16 s a v).setCpu c := by
  simp only [write16, write8_setCpu]

@[simp] theorem write16_cpu (s : State) (a v : Word) : (write16 s a v).cpu = s.cpu := by
  simp only [write16, write8_cpu]

/-- A push is two byte stores and a new `SP`. -/
theorem push16_eq (s : State) (v : Word) :
    push16 s v = (write16 s (s.cpu.sp - 2#16) v).setCpu { s.cpu with sp := s.cpu.sp - 2#16 } :=
  write16_setCpu s { s.cpu with sp := s.cpu.sp - 2#16 } (s.cpu.sp - 2#16) v

@[simp] theorem push16_cpu (s : State) (v : Word) : (push16 s v).cpu = { s.cpu with sp := s.cpu.sp - 2#16 } := by
  rw [push16_eq, State.setCpu_cpu]

/-! Writes to plain RAM, and reading after them. -/

/-- A write to work RAM or its echo. -/
theorem write8_wram {s : State} {a : Word} {k : Nat} (h : route a = .wram k) (v : Byte) :
    write8 s a v = { s with bus := { s.bus with wram := s.bus.wram.write k v } } := by
  simp only [write8, h]

/-- A write to high RAM. -/
theorem write8_hram {s : State} {a : Word} {k : Nat} (h : route a = .hram k) (v : Byte) :
    write8 s a v = { s with bus := { s.bus with hram := s.bus.hram.write k v } } := by
  simp only [write8, h]

/-- Reading work RAM back through the same or the aliased address (20_memory.md R67, R68). -/
theorem read8_write8_wram_same {s : State} {a b : Word} {k : Nat} (ha : route a = .wram k) (hb : route b = .wram k)
    (v : Byte) : read8 (write8 s a v) b = v := by
  rw [write8_wram ha]
  simp [read8, hb]

/-- A write to work RAM leaves every byte that is not an alias of it. -/
theorem read8_write8_wram_ne {s : State} {a b : Word} {k : Nat} (ha : route a = .wram k) (hb : route b ≠ .wram k)
    (v : Byte) : read8 (write8 s a v) b = read8 s b := by
  rw [write8_wram ha]
  unfold read8
  split <;> try rfl
  rename_i j hj
  have hne : j ≠ k := fun e => hb (e ▸ hj)
  simp [Ram.read_write_ne _ _ _ hne]

/-- Reading high RAM back. -/
theorem read8_write8_hram_same {s : State} {a : Word} {k : Nat} (ha : route a = .hram k) (v : Byte) :
    read8 (write8 s a v) a = v := by
  rw [write8_hram ha]
  simp [read8, ha]

/-- A write to high RAM leaves every other byte. -/
theorem read8_write8_hram_ne {s : State} {a b : Word} {k : Nat} (ha : route a = .hram k) (hb : route b ≠ .hram k)
    (v : Byte) : read8 (write8 s a v) b = read8 s b := by
  rw [write8_hram ha]
  unfold read8
  split <;> try rfl
  rename_i j hj
  have hne : j ≠ k := fun e => hb (e ▸ hj)
  simp [Ram.read_write_ne _ _ _ hne]

/-! Lists of stores. -/

@[simp] theorem afterStores_nil (s : State) : afterStores s [] = s := rfl

@[simp] theorem afterStores_cons (s : State) (a : Word) (v : Byte) (ws : List (Word × Byte)) :
    afterStores s ((a, v) :: ws) = afterStores (write8 s a v) ws := rfl

@[simp] theorem afterStores_cpu (s : State) (ws : List (Word × Byte)) : (afterStores s ws).cpu = s.cpu := by
  induction ws generalizing s with
  | nil => rfl
  | cons w ws ih => exact (ih _).trans (write8_cpu s w.1 w.2)

/-- What every byte store keeps, a list of them keeps. -/
theorem afterStores_invariant (P : State → Prop) (hP : ∀ s a v, P s → P (write8 s a v)) {s : State} (hs : P s)
    (ws : List (Word × Byte)) : P (afterStores s ws) := by
  induction ws generalizing s with
  | nil => exact hs
  | cons w ws ih => exact ih (hP s w.1 w.2 hs)

end Sys2Proof.Machine
end

