-- ==== Sys2Proof/Laws/Exec.lean ====
section
/-! SUPPORT. What an instruction can do, said once: at most two byte stores on the bus, then new CPU registers whose `F`
still has a zero low nibble, in at most 24 T-cycles. The invariants of the devices follow from those of a byte store. -/

namespace Sys2Proof.Machine

open Sys2Proof

/-- At most two byte stores, then the CPU's registers `c`. -/
def Effect (s t : State) : Prop :=
  ∃ (ws : List (Word × Byte)) (c : Cpu), ws.length ≤ 2 ∧ t = (afterStores s ws).setCpu c ∧ c.cycles ≤ 24 ∧
    (s.cpu.FlagsClean → c.FlagsClean)

/-- No store. -/
theorem Effect.ofCpu {s : State} {c : Cpu} (hc : c.cycles ≤ 24) (hf : s.cpu.FlagsClean → c.FlagsClean) :
    Effect s (s.setCpu c) := ⟨[], c, by simp, rfl, hc, hf⟩

/-- One store. -/
theorem Effect.ofStore {s : State} {c : Cpu} (a : Word) (v : Byte) (hc : c.cycles ≤ 24)
    (hf : s.cpu.FlagsClean → c.FlagsClean) : Effect s ((write8 s a v).setCpu c) :=
  ⟨[(a, v)], c, by simp, rfl, hc, hf⟩

/-- Two stores. -/
theorem Effect.ofStore16 {s : State} {c : Cpu} (a v : Word) (hc : c.cycles ≤ 24)
    (hf : s.cpu.FlagsClean → c.FlagsClean) : Effect s ((write16 s a v).setCpu c) :=
  ⟨[(a, loByte v), (a + 1#16, hiByte v)], c, by simp, rfl, hc, hf⟩

/-- Packed flags are clean. -/
theorem Cpu.flagsClean_setFlags (p : Cpu) (g : Flags) : (p.setFlags g).FlagsClean := Flags.pack_low g

/-- A pair write keeps the flags clean: only `AF` reaches `F`, and masks it (10_state.md R24). -/
theorem Cpu.flagsClean_setPair {p : Cpu} (h : p.FlagsClean) (rp : Pair) (v : Word) : (p.setPair rp v).FlagsClean := by
  cases rp with
  | bc => exact h
  | de => exact h
  | hl => exact h
  | sp => exact h
  | af =>
    show loByte v &&& 0xF0#8 &&& 0x0F#8 = 0#8
    rw [BitVec.and_assoc]
    simp

/-- A byte register write keeps the flags. -/
theorem Cpu.flagsClean_set8 {p : Cpu} (h : p.FlagsClean) (r : Reg8) (v : Byte) : (p.set8 r v).FlagsClean := by
  unfold Cpu.FlagsClean
  rw [Cpu.set8_f]
  exact h

/-- `cycles` is not the flags. -/
theorem Cpu.flagsClean_spend {p : Cpu} {n : Nat} (h : p.FlagsClean) : (p.spend n).FlagsClean := h

/-! Stores followed by register updates. -/

theorem write8_spend (s : State) (a : Word) (v : Byte) (n : Nat) :
    (write8 s a v).spend n = (write8 s a v).setCpu (s.cpu.spend n) := by
  unfold State.spend Cpu.spend
  rw [write8_cpu]

theorem write8_onCpu (s : State) (a : Word) (v : Byte) (f : Cpu → Cpu) :
    (write8 s a v).onCpu f = (write8 s a v).setCpu (f s.cpu) := by
  unfold State.onCpu
  rw [write8_cpu]

/-- Storing to an operand: no store for a register, one byte store for the byte at `HL`; then `F` and `cycles` may
change. -/
theorem putOperand_effect (s : State) (o : Operand8) (v : Byte) (f : Cpu → Cpu) (hc : ∀ p, (f p).cycles ≤ 24)
    (hf : ∀ p : Cpu, p.FlagsClean → (f p).FlagsClean) : Effect s ((putOperand s o v).onCpu f) := by
  cases o with
  | reg r => exact Effect.ofCpu (hc _) (fun h => hf _ (Cpu.flagsClean_set8 h r v))
  | atHL =>
    simp only [putOperand]
    rw [write8_onCpu]
    exact Effect.ofStore _ _ (hc _) (fun h => hf _ h)

/-! The shared operations of each family. -/

theorem loadRegReg_effect (dst src : Reg8) (s : State) : Effect s (loadRegReg dst src s) :=
  Effect.ofCpu (by simp) (fun h => Cpu.flagsClean_spend (Cpu.flagsClean_set8 h dst _))

theorem loadRegImm_effect (dst : Reg8) (v : Byte) (s : State) : Effect s (loadRegImm dst v s) :=
  Effect.ofCpu (by simp) (fun h => Cpu.flagsClean_spend (Cpu.flagsClean_set8 h dst _))

theorem loadRegAt_effect (dst : Reg8) (a : Word) {n : Nat} (hn : n ≤ 24) (s : State) : Effect s (loadRegAt dst a n s) :=
  Effect.ofCpu hn (fun h => Cpu.flagsClean_spend (Cpu.flagsClean_set8 h dst _))

theorem storeAt_effect (a : Word) (v : Byte) {n : Nat} (hn : n ≤ 24) (s : State) : Effect s (storeAt a v n s) := by
  unfold storeAt
  rw [write8_spend]
  exact Effect.ofStore a v hn id

theorem storeAThenMoveHL_effect (d : Word) (s : State) : Effect s (storeAThenMoveHL d s) := by
  unfold storeAThenMoveHL
  rw [write8_onCpu]
  exact Effect.ofStore _ _ (by simp) (fun h => Cpu.flagsClean_spend (Cpu.flagsClean_setPair h .hl _))

theorem loadAThenMoveHL_effect (d : Word) (s : State) : Effect s (loadAThenMoveHL d s) :=
  Effect.ofCpu (by simp) (fun h => Cpu.flagsClean_spend (Cpu.flagsClean_setPair (Cpu.flagsClean_set8 h .a _) .hl _))

theorem loadPairImm_effect (rp : Pair) (v : Word) (s : State) : Effect s (loadPairImm rp v s) :=
  Effect.ofCpu (by simp) (fun h => Cpu.flagsClean_spend (Cpu.flagsClean_setPair h rp v))

theorem storeSp_effect (a : Word) (s : State) : Effect s (storeSp a s) := by
  unfold storeSp State.spend
  rw [write16_cpu]
  exact Effect.ofStore16 a _ (by simp) id

theorem copyHLToSp_effect (s : State) : Effect s (copyHLToSp s) :=
  Effect.ofCpu (by simp) (fun h => Cpu.flagsClean_spend (Cpu.flagsClean_setPair h .sp _))

theorem loadHLOffset_effect (e : Byte) (s : State) : Effect s (loadHLOffset e s) :=
  Effect.ofCpu (by simp) (fun _ => Cpu.flagsClean_spend (Cpu.flagsClean_setFlags _ _))

theorem pushPair_effect (rp : Pair) (s : State) : Effect s (pushPair rp s) := by
  unfold pushPair
  rw [push16_eq]
  exact Effect.ofStore16 _ _ (by simp) id

theorem popPair_effect (rp : Pair) (s : State) : Effect s (popPair rp s) := by
  show Effect s (s.setCpu (({ s.cpu with sp := s.cpu.sp + 2#16 }.setPair rp (popped s)).spend 12))
  exact Effect.ofCpu (by simp)
    (fun h => Cpu.flagsClean_spend (Cpu.flagsClean_setPair (p := { s.cpu with sp := s.cpu.sp + 2#16 }) h rp _))

theorem aluOnA_effect (op : AluOp) (v : Byte) {n : Nat} (hn : n ≤ 24) (s : State) : Effect s (aluOnA op v n s) :=
  Effect.ofCpu hn (fun _ => Cpu.flagsClean_spend (Cpu.flagsClean_setFlags _ _))

theorem incOperand_effect (o : Operand8) {n : Nat} (hn : n ≤ 24) (s : State) : Effect s (incOperand o n s) := by
  unfold incOperand
  exact putOperand_effect s o _ _ (fun _ => hn) (fun _ _ => Cpu.flagsClean_spend (Cpu.flagsClean_setFlags _ _))

theorem decOperand_effect (o : Operand8) {n : Nat} (hn : n ≤ 24) (s : State) : Effect s (decOperand o n s) := by
  unfold decOperand
  exact putOperand_effect s o _ _ (fun _ => hn) (fun _ _ => Cpu.flagsClean_spend (Cpu.flagsClean_setFlags _ _))

theorem decimalAdjust_effect (s : State) : Effect s (decimalAdjust s) :=
  Effect.ofCpu (by simp) (fun _ => Cpu.flagsClean_spend (Cpu.flagsClean_setFlags _ _))

theorem complementA_effect (s : State) : Effect s (complementA s) :=
  Effect.ofCpu (by simp) (fun _ => Cpu.flagsClean_spend (Cpu.flagsClean_setFlags _ _))

theorem setCarry_effect (s : State) : Effect s (setCarry s) :=
  Effect.ofCpu (by simp) (fun _ => Cpu.flagsClean_spend (Cpu.flagsClean_setFlags _ _))

theorem complementCarry_effect (s : State) : Effect s (complementCarry s) :=
  Effect.ofCpu (by simp) (fun _ => Cpu.flagsClean_spend (Cpu.flagsClean_setFlags _ _))

theorem addToHL_effect (rp : Pair) (s : State) : Effect s (addToHL rp s) :=
  Effect.ofCpu (by simp) (fun _ => Cpu.flagsClean_spend (Cpu.flagsClean_setFlags _ _))

theorem incPair_effect (rp : Pair) (s : State) : Effect s (incPair rp s) :=
  Effect.ofCpu (by simp) (fun h => Cpu.flagsClean_spend (Cpu.flagsClean_setPair h rp _))

theorem decPair_effect (rp : Pair) (s : State) : Effect s (decPair rp s) :=
  Effect.ofCpu (by simp) (fun h => Cpu.flagsClean_spend (Cpu.flagsClean_setPair h rp _))

theorem addSpOffset_effect (e : Byte) (s : State) : Effect s (addSpOffset e s) :=
  Effect.ofCpu (by simp) (fun _ => Cpu.flagsClean_spend (Cpu.flagsClean_setFlags _ _))

theorem operandCost_le (o : Operand8) : operandCost o ≤ 24 := by cases o <;> simp [operandCost]

theorem testCost_le (o : Operand8) : testCost o ≤ 24 := by cases o <;> simp [testCost]

theorem rotateA_effect (op : RotOp) (s : State) : Effect s (rotateA op s) :=
  Effect.ofCpu (by simp) (fun _ => Cpu.flagsClean_spend (Cpu.flagsClean_setFlags _ _))

theorem rotateOperand_effect (op : RotOp) (o : Operand8) (s : State) : Effect s (rotateOperand op o s) := by
  unfold rotateOperand
  exact putOperand_effect s o _ _ (fun _ => operandCost_le o)
    (fun _ _ => Cpu.flagsClean_spend (Cpu.flagsClean_setFlags _ _))

theorem testBit_effect (b : Nat) (o : Operand8) (s : State) : Effect s (testBit b o s) :=
  Effect.ofCpu (testCost_le o) (fun _ => Cpu.flagsClean_spend (Cpu.flagsClean_setFlags _ _))

theorem clearBit_effect (b : Nat) (o : Operand8) (s : State) : Effect s (clearBit b o s) :=
  putOperand_effect s o _ (Cpu.spend (operandCost o)) (fun _ => operandCost_le o) (fun _ h => h)

theorem setBit_effect (b : Nat) (o : Operand8) (s : State) : Effect s (setBit b o s) :=
  putOperand_effect s o _ (Cpu.spend (operandCost o)) (fun _ => operandCost_le o) (fun _ h => h)

theorem extendedOp_effect (op2 : Byte) (s : State) : Effect s (extendedOp op2 s) := by
  unfold extendedOp
  split
  · exact rotateOperand_effect _ _ s
  · exact testBit_effect _ _ s
  · exact clearBit_effect _ _ s
  · exact setBit_effect _ _ s

/-- An effect seen from a state with other CPU registers. -/
theorem Effect.ofSetCpu {s t : State} {d : Cpu} (hd : s.cpu.FlagsClean → d.FlagsClean) (h : Effect (s.setCpu d) t) :
    Effect s t := by
  obtain ⟨ws, c, hl, ht, hc, hf⟩ := h
  refine ⟨ws, c, hl, ?_, hc, fun h => hf (hd h)⟩
  rw [ht]
  clear hl ht
  induction ws generalizing s with
  | nil => rfl
  | cons w ws ih =>
    obtain ⟨a, v⟩ := w
    simp only [afterStores_cons, write8_setCpu]
    exact ih (by rw [write8_cpu]; exact hd) (by rw [State.setCpu_cpu] at hf ⊢; exact hf)

theorem prefixed_effect (s : State) : Effect s (prefixed s) :=
  Effect.ofSetCpu (d := { s.cpu with pc := s.cpu.pc + BitVec.ofNat 16 1 }) id (extendedOp_effect _ _)

theorem jump_effect (a : Word) {n : Nat} (hn : n ≤ 24) (s : State) : Effect s (jump a n s) :=
  Effect.ofCpu (c := { s.cpu with pc := a, cycles := n }) hn id

theorem jumpIf_effect (cc : Cond) (a : Word) {n m : Nat} (hn : n ≤ 24) (hm : m ≤ 24) (s : State) :
    Effect s (jumpIf cc a n m s) := by
  unfold jumpIf
  split
  · exact jump_effect a hn s
  · exact Effect.ofCpu hm id

theorem call_effect (a : Word) {n : Nat} (hn : n ≤ 24) (s : State) : Effect s (call a n s) := by
  unfold call
  rw [push16_eq]
  exact Effect.ofStore16 (c := { s.cpu with sp := s.cpu.sp - 2#16, pc := a, cycles := n }) _ _ hn id

theorem callIf_effect (cc : Cond) (a : Word) (s : State) : Effect s (callIf cc a s) := by
  unfold callIf
  split
  · exact call_effect a (by decide) s
  · exact Effect.ofCpu (c := { s.cpu with cycles := 12 }) (by simp) id

theorem ret_effect {n : Nat} (hn : n ≤ 24) (s : State) : Effect s (ret n s) :=
  Effect.ofCpu (c := { s.cpu with sp := s.cpu.sp + 2#16, pc := popped s, cycles := n }) hn id

theorem retIf_effect (cc : Cond) (s : State) : Effect s (retIf cc s) := by
  unfold retIf
  split
  · exact ret_effect (by decide) s
  · exact Effect.ofCpu (c := { s.cpu with cycles := 8 }) (by simp) id

theorem returnFromInterrupt_effect (s : State) : Effect s (returnFromInterrupt s) :=
  Effect.ofCpu (c := { s.cpu with sp := s.cpu.sp + 2#16, pc := popped s, ime := true, eiPending := false, cycles := 16 })
    (by simp) id

theorem idle_effect (s : State) : Effect s (idle s) := Effect.ofCpu (c := { s.cpu with cycles := 4 }) (by simp) id

theorem enterHalt_effect (s : State) : Effect s (enterHalt s) := Effect.ofCpu (by simp) id

theorem enterStop_effect (s : State) : Effect s (enterStop s) := Effect.ofCpu (by simp) id

theorem disableInterrupts_effect (s : State) : Effect s (disableInterrupts s) := Effect.ofCpu (by simp) id

theorem enableInterrupts_effect (s : State) : Effect s (enableInterrupts s) := Effect.ofCpu (by simp) id

theorem raiseFatal_effect (s : State) (op : Byte) : Effect s (raiseFatal s op) := Effect.ofCpu (by simp) id

/-- EVERY instruction completes, with such an effect. -/
theorem exec_effect (i : Instr) (s : State) : ∃ t, exec i s = .next t ∧ Effect s t := by
  cases i <;> refine ⟨_, rfl, ?_⟩ <;> first
    | with_reducible exact setBit_effect _ _ _
    | with_reducible exact clearBit_effect _ _ _
    | with_reducible exact testBit_effect _ _ _
    | with_reducible exact rotateOperand_effect _ _ _
    | with_reducible exact aluOnA_effect _ _ (by decide) _
    | with_reducible exact loadRegReg_effect _ _ _
    | with_reducible exact loadRegImm_effect _ _ _
    | with_reducible exact loadRegAt_effect _ _ (by decide) _
    | with_reducible exact storeAt_effect _ _ (by decide) _
    | with_reducible exact incOperand_effect _ (by decide) _
    | with_reducible exact decOperand_effect _ (by decide) _
    | with_reducible exact storeAThenMoveHL_effect _ _
    | with_reducible exact loadAThenMoveHL_effect _ _
    | with_reducible exact loadPairImm_effect _ _ _
    | with_reducible exact pushPair_effect _ _
    | with_reducible exact popPair_effect _ _
    | with_reducible exact addToHL_effect _ _
    | with_reducible exact incPair_effect _ _
    | with_reducible exact decPair_effect _ _
    | with_reducible exact rotateA_effect _ _
    | with_reducible exact jump_effect _ (by decide) _
    | with_reducible exact jumpIf_effect _ _ (by decide) (by decide) _
    | with_reducible exact call_effect _ (by decide) _
    | with_reducible exact callIf_effect _ _ _
    | with_reducible exact ret_effect (by decide) _
    | with_reducible exact retIf_effect _ _
    | with_reducible exact storeSp_effect _ _
    | with_reducible exact copyHLToSp_effect _
    | with_reducible exact loadHLOffset_effect _ _
    | with_reducible exact decimalAdjust_effect _
    | with_reducible exact complementA_effect _
    | with_reducible exact setCarry_effect _
    | with_reducible exact complementCarry_effect _
    | with_reducible exact addSpOffset_effect _ _
    | with_reducible exact prefixed_effect _
    | with_reducible exact returnFromInterrupt_effect _
    | with_reducible exact idle_effect _
    | with_reducible exact enterHalt_effect _
    | with_reducible exact enterStop_effect _
    | with_reducible exact disableInterrupts_effect _
    | with_reducible exact enableInterrupts_effect _
    | with_reducible exact raiseFatal_effect _ _

end Sys2Proof.Machine
end

