-- ==== Sys2Proof/Laws/PerInstr.lean ====
section
/-! SUPPORT. Facts about instructions as syntax, one lemma for each constructor. -/

namespace Sys2Proof.Laws

open Sys2Proof

/-- The length of an instruction is what its first byte says (30_encoding.md R137); the lone prefix byte, whose second
byte is another row of the table, is the exception. -/
def EncodeLength.Statement (i : Instr) : Prop :=
  i.wellFormed = true → i = .prefixCB ∨ i.length = opLength ((encode i).headD 0x00#8)

theorem EncodeLength.ld_BC_d16 (d16 : Word) : EncodeLength.Statement (.ld_BC_d16 d16) :=
  fun _ => .inr (show 3 = opLength 0x01#8 from rfl)
theorem EncodeLength.ld_B_d8 (d8 : Byte) : EncodeLength.Statement (.ld_B_d8 d8) :=
  fun _ => .inr (show 2 = opLength 0x06#8 from rfl)
theorem EncodeLength.ld_atA16_SP (a16 : Word) : EncodeLength.Statement (.ld_atA16_SP a16) :=
  fun _ => .inr (show 3 = opLength 0x08#8 from rfl)
theorem EncodeLength.ld_C_d8 (d8 : Byte) : EncodeLength.Statement (.ld_C_d8 d8) :=
  fun _ => .inr (show 2 = opLength 0x0E#8 from rfl)
theorem EncodeLength.stop (pad : Byte) : EncodeLength.Statement (.stop pad) :=
  fun _ => .inr (show 2 = opLength 0x10#8 from rfl)
theorem EncodeLength.ld_DE_d16 (d16 : Word) : EncodeLength.Statement (.ld_DE_d16 d16) :=
  fun _ => .inr (show 3 = opLength 0x11#8 from rfl)
theorem EncodeLength.ld_D_d8 (d8 : Byte) : EncodeLength.Statement (.ld_D_d8 d8) :=
  fun _ => .inr (show 2 = opLength 0x16#8 from rfl)
theorem EncodeLength.jr_e8 (e8 : Byte) : EncodeLength.Statement (.jr_e8 e8) :=
  fun _ => .inr (show 2 = opLength 0x18#8 from rfl)
theorem EncodeLength.ld_E_d8 (d8 : Byte) : EncodeLength.Statement (.ld_E_d8 d8) :=
  fun _ => .inr (show 2 = opLength 0x1E#8 from rfl)
theorem EncodeLength.jr_NZ_e8 (e8 : Byte) : EncodeLength.Statement (.jr_NZ_e8 e8) :=
  fun _ => .inr (show 2 = opLength 0x20#8 from rfl)
theorem EncodeLength.ld_HL_d16 (d16 : Word) : EncodeLength.Statement (.ld_HL_d16 d16) :=
  fun _ => .inr (show 3 = opLength 0x21#8 from rfl)
theorem EncodeLength.ld_H_d8 (d8 : Byte) : EncodeLength.Statement (.ld_H_d8 d8) :=
  fun _ => .inr (show 2 = opLength 0x26#8 from rfl)
theorem EncodeLength.jr_Z_e8 (e8 : Byte) : EncodeLength.Statement (.jr_Z_e8 e8) :=
  fun _ => .inr (show 2 = opLength 0x28#8 from rfl)
theorem EncodeLength.ld_L_d8 (d8 : Byte) : EncodeLength.Statement (.ld_L_d8 d8) :=
  fun _ => .inr (show 2 = opLength 0x2E#8 from rfl)
theorem EncodeLength.jr_NC_e8 (e8 : Byte) : EncodeLength.Statement (.jr_NC_e8 e8) :=
  fun _ => .inr (show 2 = opLength 0x30#8 from rfl)
theorem EncodeLength.ld_SP_d16 (d16 : Word) : EncodeLength.Statement (.ld_SP_d16 d16) :=
  fun _ => .inr (show 3 = opLength 0x31#8 from rfl)
theorem EncodeLength.ld_atHL_d8 (d8 : Byte) : EncodeLength.Statement (.ld_atHL_d8 d8) :=
  fun _ => .inr (show 2 = opLength 0x36#8 from rfl)
theorem EncodeLength.jr_C_e8 (e8 : Byte) : EncodeLength.Statement (.jr_C_e8 e8) :=
  fun _ => .inr (show 2 = opLength 0x38#8 from rfl)
theorem EncodeLength.ld_A_d8 (d8 : Byte) : EncodeLength.Statement (.ld_A_d8 d8) :=
  fun _ => .inr (show 2 = opLength 0x3E#8 from rfl)
theorem EncodeLength.jp_NZ_a16 (a16 : Word) : EncodeLength.Statement (.jp_NZ_a16 a16) :=
  fun _ => .inr (show 3 = opLength 0xC2#8 from rfl)
theorem EncodeLength.jp_a16 (a16 : Word) : EncodeLength.Statement (.jp_a16 a16) :=
  fun _ => .inr (show 3 = opLength 0xC3#8 from rfl)
theorem EncodeLength.call_NZ_a16 (a16 : Word) : EncodeLength.Statement (.call_NZ_a16 a16) :=
  fun _ => .inr (show 3 = opLength 0xC4#8 from rfl)
theorem EncodeLength.add_A_d8 (d8 : Byte) : EncodeLength.Statement (.add_A_d8 d8) :=
  fun _ => .inr (show 2 = opLength 0xC6#8 from rfl)
theorem EncodeLength.jp_Z_a16 (a16 : Word) : EncodeLength.Statement (.jp_Z_a16 a16) :=
  fun _ => .inr (show 3 = opLength 0xCA#8 from rfl)
theorem EncodeLength.call_Z_a16 (a16 : Word) : EncodeLength.Statement (.call_Z_a16 a16) :=
  fun _ => .inr (show 3 = opLength 0xCC#8 from rfl)
theorem EncodeLength.call_a16 (a16 : Word) : EncodeLength.Statement (.call_a16 a16) :=
  fun _ => .inr (show 3 = opLength 0xCD#8 from rfl)
theorem EncodeLength.adc_A_d8 (d8 : Byte) : EncodeLength.Statement (.adc_A_d8 d8) :=
  fun _ => .inr (show 2 = opLength 0xCE#8 from rfl)
theorem EncodeLength.jp_NC_a16 (a16 : Word) : EncodeLength.Statement (.jp_NC_a16 a16) :=
  fun _ => .inr (show 3 = opLength 0xD2#8 from rfl)
theorem EncodeLength.undefined (op : Byte) : EncodeLength.Statement (.undefined op) := by
  revert op
  unfold EncodeLength.Statement
  decide +kernel
theorem EncodeLength.call_NC_a16 (a16 : Word) : EncodeLength.Statement (.call_NC_a16 a16) :=
  fun _ => .inr (show 3 = opLength 0xD4#8 from rfl)
theorem EncodeLength.sub_d8 (d8 : Byte) : EncodeLength.Statement (.sub_d8 d8) :=
  fun _ => .inr (show 2 = opLength 0xD6#8 from rfl)
theorem EncodeLength.jp_C_a16 (a16 : Word) : EncodeLength.Statement (.jp_C_a16 a16) :=
  fun _ => .inr (show 3 = opLength 0xDA#8 from rfl)
theorem EncodeLength.call_C_a16 (a16 : Word) : EncodeLength.Statement (.call_C_a16 a16) :=
  fun _ => .inr (show 3 = opLength 0xDC#8 from rfl)
theorem EncodeLength.sbc_A_d8 (d8 : Byte) : EncodeLength.Statement (.sbc_A_d8 d8) :=
  fun _ => .inr (show 2 = opLength 0xDE#8 from rfl)
theorem EncodeLength.ldh_atA8_A (a8 : Byte) : EncodeLength.Statement (.ldh_atA8_A a8) :=
  fun _ => .inr (show 2 = opLength 0xE0#8 from rfl)
theorem EncodeLength.and_d8 (d8 : Byte) : EncodeLength.Statement (.and_d8 d8) :=
  fun _ => .inr (show 2 = opLength 0xE6#8 from rfl)
theorem EncodeLength.add_SP_e8 (e8 : Byte) : EncodeLength.Statement (.add_SP_e8 e8) :=
  fun _ => .inr (show 2 = opLength 0xE8#8 from rfl)
theorem EncodeLength.ld_atA16_A (a16 : Word) : EncodeLength.Statement (.ld_atA16_A a16) :=
  fun _ => .inr (show 3 = opLength 0xEA#8 from rfl)
theorem EncodeLength.xor_d8 (d8 : Byte) : EncodeLength.Statement (.xor_d8 d8) :=
  fun _ => .inr (show 2 = opLength 0xEE#8 from rfl)
theorem EncodeLength.ldh_A_atA8 (a8 : Byte) : EncodeLength.Statement (.ldh_A_atA8 a8) :=
  fun _ => .inr (show 2 = opLength 0xF0#8 from rfl)
theorem EncodeLength.or_d8 (d8 : Byte) : EncodeLength.Statement (.or_d8 d8) :=
  fun _ => .inr (show 2 = opLength 0xF6#8 from rfl)
theorem EncodeLength.ld_HL_SPe8 (e8 : Byte) : EncodeLength.Statement (.ld_HL_SPe8 e8) :=
  fun _ => .inr (show 2 = opLength 0xF8#8 from rfl)
theorem EncodeLength.ld_A_atA16 (a16 : Word) : EncodeLength.Statement (.ld_A_atA16 a16) :=
  fun _ => .inr (show 3 = opLength 0xFA#8 from rfl)
theorem EncodeLength.cp_d8 (d8 : Byte) : EncodeLength.Statement (.cp_d8 d8) :=
  fun _ => .inr (show 2 = opLength 0xFE#8 from rfl)
theorem EncodeLength.nop : EncodeLength.Statement .nop := fun _ => .inr rfl
theorem EncodeLength.ld_atBC_A : EncodeLength.Statement .ld_atBC_A := fun _ => .inr rfl
theorem EncodeLength.inc_BC : EncodeLength.Statement .inc_BC := fun _ => .inr rfl
theorem EncodeLength.inc_B : EncodeLength.Statement .inc_B := fun _ => .inr rfl
theorem EncodeLength.dec_B : EncodeLength.Statement .dec_B := fun _ => .inr rfl
theorem EncodeLength.rlca : EncodeLength.Statement .rlca := fun _ => .inr rfl
theorem EncodeLength.add_HL_BC : EncodeLength.Statement .add_HL_BC := fun _ => .inr rfl
theorem EncodeLength.ld_A_atBC : EncodeLength.Statement .ld_A_atBC := fun _ => .inr rfl
theorem EncodeLength.dec_BC : EncodeLength.Statement .dec_BC := fun _ => .inr rfl
theorem EncodeLength.inc_C : EncodeLength.Statement .inc_C := fun _ => .inr rfl
theorem EncodeLength.dec_C : EncodeLength.Statement .dec_C := fun _ => .inr rfl
theorem EncodeLength.rrca : EncodeLength.Statement .rrca := fun _ => .inr rfl
theorem EncodeLength.ld_atDE_A : EncodeLength.Statement .ld_atDE_A := fun _ => .inr rfl
theorem EncodeLength.inc_DE : EncodeLength.Statement .inc_DE := fun _ => .inr rfl
theorem EncodeLength.inc_D : EncodeLength.Statement .inc_D := fun _ => .inr rfl
theorem EncodeLength.dec_D : EncodeLength.Statement .dec_D := fun _ => .inr rfl
theorem EncodeLength.rla : EncodeLength.Statement .rla := fun _ => .inr rfl
theorem EncodeLength.add_HL_DE : EncodeLength.Statement .add_HL_DE := fun _ => .inr rfl
theorem EncodeLength.ld_A_atDE : EncodeLength.Statement .ld_A_atDE := fun _ => .inr rfl
theorem EncodeLength.dec_DE : EncodeLength.Statement .dec_DE := fun _ => .inr rfl
theorem EncodeLength.inc_E : EncodeLength.Statement .inc_E := fun _ => .inr rfl
theorem EncodeLength.dec_E : EncodeLength.Statement .dec_E := fun _ => .inr rfl
theorem EncodeLength.rra : EncodeLength.Statement .rra := fun _ => .inr rfl
theorem EncodeLength.ld_atHLI_A : EncodeLength.Statement .ld_atHLI_A := fun _ => .inr rfl
theorem EncodeLength.inc_HL : EncodeLength.Statement .inc_HL := fun _ => .inr rfl
theorem EncodeLength.inc_H : EncodeLength.Statement .inc_H := fun _ => .inr rfl
theorem EncodeLength.dec_H : EncodeLength.Statement .dec_H := fun _ => .inr rfl
theorem EncodeLength.daa : EncodeLength.Statement .daa := fun _ => .inr rfl
theorem EncodeLength.add_HL_HL : EncodeLength.Statement .add_HL_HL := fun _ => .inr rfl
theorem EncodeLength.ld_A_atHLI : EncodeLength.Statement .ld_A_atHLI := fun _ => .inr rfl
theorem EncodeLength.dec_HL : EncodeLength.Statement .dec_HL := fun _ => .inr rfl
theorem EncodeLength.inc_L : EncodeLength.Statement .inc_L := fun _ => .inr rfl
theorem EncodeLength.dec_L : EncodeLength.Statement .dec_L := fun _ => .inr rfl
theorem EncodeLength.cpl : EncodeLength.Statement .cpl := fun _ => .inr rfl
theorem EncodeLength.ld_atHLD_A : EncodeLength.Statement .ld_atHLD_A := fun _ => .inr rfl
theorem EncodeLength.inc_SP : EncodeLength.Statement .inc_SP := fun _ => .inr rfl
theorem EncodeLength.inc_atHL : EncodeLength.Statement .inc_atHL := fun _ => .inr rfl
theorem EncodeLength.dec_atHL : EncodeLength.Statement .dec_atHL := fun _ => .inr rfl
theorem EncodeLength.scf : EncodeLength.Statement .scf := fun _ => .inr rfl
theorem EncodeLength.add_HL_SP : EncodeLength.Statement .add_HL_SP := fun _ => .inr rfl
theorem EncodeLength.ld_A_atHLD : EncodeLength.Statement .ld_A_atHLD := fun _ => .inr rfl
theorem EncodeLength.dec_SP : EncodeLength.Statement .dec_SP := fun _ => .inr rfl
theorem EncodeLength.inc_A : EncodeLength.Statement .inc_A := fun _ => .inr rfl
theorem EncodeLength.dec_A : EncodeLength.Statement .dec_A := fun _ => .inr rfl
theorem EncodeLength.ccf : EncodeLength.Statement .ccf := fun _ => .inr rfl
theorem EncodeLength.ld_B_B : EncodeLength.Statement .ld_B_B := fun _ => .inr rfl
theorem EncodeLength.ld_B_C : EncodeLength.Statement .ld_B_C := fun _ => .inr rfl
theorem EncodeLength.ld_B_D : EncodeLength.Statement .ld_B_D := fun _ => .inr rfl
theorem EncodeLength.ld_B_E : EncodeLength.Statement .ld_B_E := fun _ => .inr rfl
theorem EncodeLength.ld_B_H : EncodeLength.Statement .ld_B_H := fun _ => .inr rfl
theorem EncodeLength.ld_B_L : EncodeLength.Statement .ld_B_L := fun _ => .inr rfl
theorem EncodeLength.ld_B_atHL : EncodeLength.Statement .ld_B_atHL := fun _ => .inr rfl
theorem EncodeLength.ld_B_A : EncodeLength.Statement .ld_B_A := fun _ => .inr rfl
theorem EncodeLength.ld_C_B : EncodeLength.Statement .ld_C_B := fun _ => .inr rfl
theorem EncodeLength.ld_C_C : EncodeLength.Statement .ld_C_C := fun _ => .inr rfl
theorem EncodeLength.ld_C_D : EncodeLength.Statement .ld_C_D := fun _ => .inr rfl
theorem EncodeLength.ld_C_E : EncodeLength.Statement .ld_C_E := fun _ => .inr rfl
theorem EncodeLength.ld_C_H : EncodeLength.Statement .ld_C_H := fun _ => .inr rfl
theorem EncodeLength.ld_C_L : EncodeLength.Statement .ld_C_L := fun _ => .inr rfl
theorem EncodeLength.ld_C_atHL : EncodeLength.Statement .ld_C_atHL := fun _ => .inr rfl
theorem EncodeLength.ld_C_A : EncodeLength.Statement .ld_C_A := fun _ => .inr rfl
theorem EncodeLength.ld_D_B : EncodeLength.Statement .ld_D_B := fun _ => .inr rfl
theorem EncodeLength.ld_D_C : EncodeLength.Statement .ld_D_C := fun _ => .inr rfl
theorem EncodeLength.ld_D_D : EncodeLength.Statement .ld_D_D := fun _ => .inr rfl
theorem EncodeLength.ld_D_E : EncodeLength.Statement .ld_D_E := fun _ => .inr rfl
theorem EncodeLength.ld_D_H : EncodeLength.Statement .ld_D_H := fun _ => .inr rfl
theorem EncodeLength.ld_D_L : EncodeLength.Statement .ld_D_L := fun _ => .inr rfl
theorem EncodeLength.ld_D_atHL : EncodeLength.Statement .ld_D_atHL := fun _ => .inr rfl
theorem EncodeLength.ld_D_A : EncodeLength.Statement .ld_D_A := fun _ => .inr rfl
theorem EncodeLength.ld_E_B : EncodeLength.Statement .ld_E_B := fun _ => .inr rfl
theorem EncodeLength.ld_E_C : EncodeLength.Statement .ld_E_C := fun _ => .inr rfl
theorem EncodeLength.ld_E_D : EncodeLength.Statement .ld_E_D := fun _ => .inr rfl
theorem EncodeLength.ld_E_E : EncodeLength.Statement .ld_E_E := fun _ => .inr rfl
theorem EncodeLength.ld_E_H : EncodeLength.Statement .ld_E_H := fun _ => .inr rfl
theorem EncodeLength.ld_E_L : EncodeLength.Statement .ld_E_L := fun _ => .inr rfl
theorem EncodeLength.ld_E_atHL : EncodeLength.Statement .ld_E_atHL := fun _ => .inr rfl
theorem EncodeLength.ld_E_A : EncodeLength.Statement .ld_E_A := fun _ => .inr rfl
theorem EncodeLength.ld_H_B : EncodeLength.Statement .ld_H_B := fun _ => .inr rfl
theorem EncodeLength.ld_H_C : EncodeLength.Statement .ld_H_C := fun _ => .inr rfl
theorem EncodeLength.ld_H_D : EncodeLength.Statement .ld_H_D := fun _ => .inr rfl
theorem EncodeLength.ld_H_E : EncodeLength.Statement .ld_H_E := fun _ => .inr rfl
theorem EncodeLength.ld_H_H : EncodeLength.Statement .ld_H_H := fun _ => .inr rfl
theorem EncodeLength.ld_H_L : EncodeLength.Statement .ld_H_L := fun _ => .inr rfl
theorem EncodeLength.ld_H_atHL : EncodeLength.Statement .ld_H_atHL := fun _ => .inr rfl
theorem EncodeLength.ld_H_A : EncodeLength.Statement .ld_H_A := fun _ => .inr rfl
theorem EncodeLength.ld_L_B : EncodeLength.Statement .ld_L_B := fun _ => .inr rfl
theorem EncodeLength.ld_L_C : EncodeLength.Statement .ld_L_C := fun _ => .inr rfl
theorem EncodeLength.ld_L_D : EncodeLength.Statement .ld_L_D := fun _ => .inr rfl
theorem EncodeLength.ld_L_E : EncodeLength.Statement .ld_L_E := fun _ => .inr rfl
theorem EncodeLength.ld_L_H : EncodeLength.Statement .ld_L_H := fun _ => .inr rfl
theorem EncodeLength.ld_L_L : EncodeLength.Statement .ld_L_L := fun _ => .inr rfl
theorem EncodeLength.ld_L_atHL : EncodeLength.Statement .ld_L_atHL := fun _ => .inr rfl
theorem EncodeLength.ld_L_A : EncodeLength.Statement .ld_L_A := fun _ => .inr rfl
theorem EncodeLength.ld_atHL_B : EncodeLength.Statement .ld_atHL_B := fun _ => .inr rfl
theorem EncodeLength.ld_atHL_C : EncodeLength.Statement .ld_atHL_C := fun _ => .inr rfl
theorem EncodeLength.ld_atHL_D : EncodeLength.Statement .ld_atHL_D := fun _ => .inr rfl
theorem EncodeLength.ld_atHL_E : EncodeLength.Statement .ld_atHL_E := fun _ => .inr rfl
theorem EncodeLength.ld_atHL_H : EncodeLength.Statement .ld_atHL_H := fun _ => .inr rfl
theorem EncodeLength.ld_atHL_L : EncodeLength.Statement .ld_atHL_L := fun _ => .inr rfl
theorem EncodeLength.halt : EncodeLength.Statement .halt := fun _ => .inr rfl
theorem EncodeLength.ld_atHL_A : EncodeLength.Statement .ld_atHL_A := fun _ => .inr rfl
theorem EncodeLength.ld_A_B : EncodeLength.Statement .ld_A_B := fun _ => .inr rfl
theorem EncodeLength.ld_A_C : EncodeLength.Statement .ld_A_C := fun _ => .inr rfl
theorem EncodeLength.ld_A_D : EncodeLength.Statement .ld_A_D := fun _ => .inr rfl
theorem EncodeLength.ld_A_E : EncodeLength.Statement .ld_A_E := fun _ => .inr rfl
theorem EncodeLength.ld_A_H : EncodeLength.Statement .ld_A_H := fun _ => .inr rfl
theorem EncodeLength.ld_A_L : EncodeLength.Statement .ld_A_L := fun _ => .inr rfl
theorem EncodeLength.ld_A_atHL : EncodeLength.Statement .ld_A_atHL := fun _ => .inr rfl
theorem EncodeLength.ld_A_A : EncodeLength.Statement .ld_A_A := fun _ => .inr rfl
theorem EncodeLength.add_A_B : EncodeLength.Statement .add_A_B := fun _ => .inr rfl
theorem EncodeLength.add_A_C : EncodeLength.Statement .add_A_C := fun _ => .inr rfl
theorem EncodeLength.add_A_D : EncodeLength.Statement .add_A_D := fun _ => .inr rfl
theorem EncodeLength.add_A_E : EncodeLength.Statement .add_A_E := fun _ => .inr rfl
theorem EncodeLength.add_A_H : EncodeLength.Statement .add_A_H := fun _ => .inr rfl
theorem EncodeLength.add_A_L : EncodeLength.Statement .add_A_L := fun _ => .inr rfl
theorem EncodeLength.add_A_atHL : EncodeLength.Statement .add_A_atHL := fun _ => .inr rfl
theorem EncodeLength.add_A_A : EncodeLength.Statement .add_A_A := fun _ => .inr rfl
theorem EncodeLength.adc_A_B : EncodeLength.Statement .adc_A_B := fun _ => .inr rfl
theorem EncodeLength.adc_A_C : EncodeLength.Statement .adc_A_C := fun _ => .inr rfl
theorem EncodeLength.adc_A_D : EncodeLength.Statement .adc_A_D := fun _ => .inr rfl
theorem EncodeLength.adc_A_E : EncodeLength.Statement .adc_A_E := fun _ => .inr rfl
theorem EncodeLength.adc_A_H : EncodeLength.Statement .adc_A_H := fun _ => .inr rfl
theorem EncodeLength.adc_A_L : EncodeLength.Statement .adc_A_L := fun _ => .inr rfl
theorem EncodeLength.adc_A_atHL : EncodeLength.Statement .adc_A_atHL := fun _ => .inr rfl
theorem EncodeLength.adc_A_A : EncodeLength.Statement .adc_A_A := fun _ => .inr rfl
theorem EncodeLength.sub_B : EncodeLength.Statement .sub_B := fun _ => .inr rfl
theorem EncodeLength.sub_C : EncodeLength.Statement .sub_C := fun _ => .inr rfl
theorem EncodeLength.sub_D : EncodeLength.Statement .sub_D := fun _ => .inr rfl
theorem EncodeLength.sub_E : EncodeLength.Statement .sub_E := fun _ => .inr rfl
theorem EncodeLength.sub_H : EncodeLength.Statement .sub_H := fun _ => .inr rfl
theorem EncodeLength.sub_L : EncodeLength.Statement .sub_L := fun _ => .inr rfl
theorem EncodeLength.sub_atHL : EncodeLength.Statement .sub_atHL := fun _ => .inr rfl
theorem EncodeLength.sub_A : EncodeLength.Statement .sub_A := fun _ => .inr rfl
theorem EncodeLength.sbc_A_B : EncodeLength.Statement .sbc_A_B := fun _ => .inr rfl
theorem EncodeLength.sbc_A_C : EncodeLength.Statement .sbc_A_C := fun _ => .inr rfl
theorem EncodeLength.sbc_A_D : EncodeLength.Statement .sbc_A_D := fun _ => .inr rfl
theorem EncodeLength.sbc_A_E : EncodeLength.Statement .sbc_A_E := fun _ => .inr rfl
theorem EncodeLength.sbc_A_H : EncodeLength.Statement .sbc_A_H := fun _ => .inr rfl
theorem EncodeLength.sbc_A_L : EncodeLength.Statement .sbc_A_L := fun _ => .inr rfl
theorem EncodeLength.sbc_A_atHL : EncodeLength.Statement .sbc_A_atHL := fun _ => .inr rfl
theorem EncodeLength.sbc_A_A : EncodeLength.Statement .sbc_A_A := fun _ => .inr rfl
theorem EncodeLength.and_B : EncodeLength.Statement .and_B := fun _ => .inr rfl
theorem EncodeLength.and_C : EncodeLength.Statement .and_C := fun _ => .inr rfl
theorem EncodeLength.and_D : EncodeLength.Statement .and_D := fun _ => .inr rfl
theorem EncodeLength.and_E : EncodeLength.Statement .and_E := fun _ => .inr rfl
theorem EncodeLength.and_H : EncodeLength.Statement .and_H := fun _ => .inr rfl
theorem EncodeLength.and_L : EncodeLength.Statement .and_L := fun _ => .inr rfl
theorem EncodeLength.and_atHL : EncodeLength.Statement .and_atHL := fun _ => .inr rfl
theorem EncodeLength.and_A : EncodeLength.Statement .and_A := fun _ => .inr rfl
theorem EncodeLength.xor_B : EncodeLength.Statement .xor_B := fun _ => .inr rfl
theorem EncodeLength.xor_C : EncodeLength.Statement .xor_C := fun _ => .inr rfl
theorem EncodeLength.xor_D : EncodeLength.Statement .xor_D := fun _ => .inr rfl
theorem EncodeLength.xor_E : EncodeLength.Statement .xor_E := fun _ => .inr rfl
theorem EncodeLength.xor_H : EncodeLength.Statement .xor_H := fun _ => .inr rfl
theorem EncodeLength.xor_L : EncodeLength.Statement .xor_L := fun _ => .inr rfl
theorem EncodeLength.xor_atHL : EncodeLength.Statement .xor_atHL := fun _ => .inr rfl
theorem EncodeLength.xor_A : EncodeLength.Statement .xor_A := fun _ => .inr rfl
theorem EncodeLength.or_B : EncodeLength.Statement .or_B := fun _ => .inr rfl
theorem EncodeLength.or_C : EncodeLength.Statement .or_C := fun _ => .inr rfl
theorem EncodeLength.or_D : EncodeLength.Statement .or_D := fun _ => .inr rfl
theorem EncodeLength.or_E : EncodeLength.Statement .or_E := fun _ => .inr rfl
theorem EncodeLength.or_H : EncodeLength.Statement .or_H := fun _ => .inr rfl
theorem EncodeLength.or_L : EncodeLength.Statement .or_L := fun _ => .inr rfl
theorem EncodeLength.or_atHL : EncodeLength.Statement .or_atHL := fun _ => .inr rfl
theorem EncodeLength.or_A : EncodeLength.Statement .or_A := fun _ => .inr rfl
theorem EncodeLength.cp_B : EncodeLength.Statement .cp_B := fun _ => .inr rfl
theorem EncodeLength.cp_C : EncodeLength.Statement .cp_C := fun _ => .inr rfl
theorem EncodeLength.cp_D : EncodeLength.Statement .cp_D := fun _ => .inr rfl
theorem EncodeLength.cp_E : EncodeLength.Statement .cp_E := fun _ => .inr rfl
theorem EncodeLength.cp_H : EncodeLength.Statement .cp_H := fun _ => .inr rfl
theorem EncodeLength.cp_L : EncodeLength.Statement .cp_L := fun _ => .inr rfl
theorem EncodeLength.cp_atHL : EncodeLength.Statement .cp_atHL := fun _ => .inr rfl
theorem EncodeLength.cp_A : EncodeLength.Statement .cp_A := fun _ => .inr rfl
theorem EncodeLength.ret_NZ : EncodeLength.Statement .ret_NZ := fun _ => .inr rfl
theorem EncodeLength.pop_BC : EncodeLength.Statement .pop_BC := fun _ => .inr rfl
theorem EncodeLength.push_BC : EncodeLength.Statement .push_BC := fun _ => .inr rfl
theorem EncodeLength.rst_00 : EncodeLength.Statement .rst_00 := fun _ => .inr rfl
theorem EncodeLength.ret_Z : EncodeLength.Statement .ret_Z := fun _ => .inr rfl
theorem EncodeLength.ret : EncodeLength.Statement .ret := fun _ => .inr rfl
theorem EncodeLength.prefixCB : EncodeLength.Statement .prefixCB := fun _ => .inl rfl
theorem EncodeLength.rst_08 : EncodeLength.Statement .rst_08 := fun _ => .inr rfl
theorem EncodeLength.ret_NC : EncodeLength.Statement .ret_NC := fun _ => .inr rfl
theorem EncodeLength.pop_DE : EncodeLength.Statement .pop_DE := fun _ => .inr rfl
theorem EncodeLength.push_DE : EncodeLength.Statement .push_DE := fun _ => .inr rfl
theorem EncodeLength.rst_10 : EncodeLength.Statement .rst_10 := fun _ => .inr rfl
theorem EncodeLength.ret_C : EncodeLength.Statement .ret_C := fun _ => .inr rfl
theorem EncodeLength.reti : EncodeLength.Statement .reti := fun _ => .inr rfl
theorem EncodeLength.rst_18 : EncodeLength.Statement .rst_18 := fun _ => .inr rfl
theorem EncodeLength.pop_HL : EncodeLength.Statement .pop_HL := fun _ => .inr rfl
theorem EncodeLength.ld_atC_A : EncodeLength.Statement .ld_atC_A := fun _ => .inr rfl
theorem EncodeLength.push_HL : EncodeLength.Statement .push_HL := fun _ => .inr rfl
theorem EncodeLength.rst_20 : EncodeLength.Statement .rst_20 := fun _ => .inr rfl
theorem EncodeLength.jp_HL : EncodeLength.Statement .jp_HL := fun _ => .inr rfl
theorem EncodeLength.rst_28 : EncodeLength.Statement .rst_28 := fun _ => .inr rfl
theorem EncodeLength.pop_AF : EncodeLength.Statement .pop_AF := fun _ => .inr rfl
theorem EncodeLength.ld_A_atC : EncodeLength.Statement .ld_A_atC := fun _ => .inr rfl
theorem EncodeLength.di : EncodeLength.Statement .di := fun _ => .inr rfl
theorem EncodeLength.push_AF : EncodeLength.Statement .push_AF := fun _ => .inr rfl
theorem EncodeLength.rst_30 : EncodeLength.Statement .rst_30 := fun _ => .inr rfl
theorem EncodeLength.ld_SP_HL : EncodeLength.Statement .ld_SP_HL := fun _ => .inr rfl
theorem EncodeLength.ei : EncodeLength.Statement .ei := fun _ => .inr rfl
theorem EncodeLength.rst_38 : EncodeLength.Statement .rst_38 := fun _ => .inr rfl
theorem EncodeLength.rlc_B : EncodeLength.Statement .rlc_B := fun _ => .inr rfl
theorem EncodeLength.rlc_C : EncodeLength.Statement .rlc_C := fun _ => .inr rfl
theorem EncodeLength.rlc_D : EncodeLength.Statement .rlc_D := fun _ => .inr rfl
theorem EncodeLength.rlc_E : EncodeLength.Statement .rlc_E := fun _ => .inr rfl
theorem EncodeLength.rlc_H : EncodeLength.Statement .rlc_H := fun _ => .inr rfl
theorem EncodeLength.rlc_L : EncodeLength.Statement .rlc_L := fun _ => .inr rfl
theorem EncodeLength.rlc_atHL : EncodeLength.Statement .rlc_atHL := fun _ => .inr rfl
theorem EncodeLength.rlc_A : EncodeLength.Statement .rlc_A := fun _ => .inr rfl
theorem EncodeLength.rrc_B : EncodeLength.Statement .rrc_B := fun _ => .inr rfl
theorem EncodeLength.rrc_C : EncodeLength.Statement .rrc_C := fun _ => .inr rfl
theorem EncodeLength.rrc_D : EncodeLength.Statement .rrc_D := fun _ => .inr rfl
theorem EncodeLength.rrc_E : EncodeLength.Statement .rrc_E := fun _ => .inr rfl
theorem EncodeLength.rrc_H : EncodeLength.Statement .rrc_H := fun _ => .inr rfl
theorem EncodeLength.rrc_L : EncodeLength.Statement .rrc_L := fun _ => .inr rfl
theorem EncodeLength.rrc_atHL : EncodeLength.Statement .rrc_atHL := fun _ => .inr rfl
theorem EncodeLength.rrc_A : EncodeLength.Statement .rrc_A := fun _ => .inr rfl
theorem EncodeLength.rl_B : EncodeLength.Statement .rl_B := fun _ => .inr rfl
theorem EncodeLength.rl_C : EncodeLength.Statement .rl_C := fun _ => .inr rfl
theorem EncodeLength.rl_D : EncodeLength.Statement .rl_D := fun _ => .inr rfl
theorem EncodeLength.rl_E : EncodeLength.Statement .rl_E := fun _ => .inr rfl
theorem EncodeLength.rl_H : EncodeLength.Statement .rl_H := fun _ => .inr rfl
theorem EncodeLength.rl_L : EncodeLength.Statement .rl_L := fun _ => .inr rfl
theorem EncodeLength.rl_atHL : EncodeLength.Statement .rl_atHL := fun _ => .inr rfl
theorem EncodeLength.rl_A : EncodeLength.Statement .rl_A := fun _ => .inr rfl
theorem EncodeLength.rr_B : EncodeLength.Statement .rr_B := fun _ => .inr rfl
theorem EncodeLength.rr_C : EncodeLength.Statement .rr_C := fun _ => .inr rfl
theorem EncodeLength.rr_D : EncodeLength.Statement .rr_D := fun _ => .inr rfl
theorem EncodeLength.rr_E : EncodeLength.Statement .rr_E := fun _ => .inr rfl
theorem EncodeLength.rr_H : EncodeLength.Statement .rr_H := fun _ => .inr rfl
theorem EncodeLength.rr_L : EncodeLength.Statement .rr_L := fun _ => .inr rfl
theorem EncodeLength.rr_atHL : EncodeLength.Statement .rr_atHL := fun _ => .inr rfl
theorem EncodeLength.rr_A : EncodeLength.Statement .rr_A := fun _ => .inr rfl
theorem EncodeLength.sla_B : EncodeLength.Statement .sla_B := fun _ => .inr rfl
theorem EncodeLength.sla_C : EncodeLength.Statement .sla_C := fun _ => .inr rfl
theorem EncodeLength.sla_D : EncodeLength.Statement .sla_D := fun _ => .inr rfl
theorem EncodeLength.sla_E : EncodeLength.Statement .sla_E := fun _ => .inr rfl
theorem EncodeLength.sla_H : EncodeLength.Statement .sla_H := fun _ => .inr rfl
theorem EncodeLength.sla_L : EncodeLength.Statement .sla_L := fun _ => .inr rfl
theorem EncodeLength.sla_atHL : EncodeLength.Statement .sla_atHL := fun _ => .inr rfl
theorem EncodeLength.sla_A : EncodeLength.Statement .sla_A := fun _ => .inr rfl
theorem EncodeLength.sra_B : EncodeLength.Statement .sra_B := fun _ => .inr rfl
theorem EncodeLength.sra_C : EncodeLength.Statement .sra_C := fun _ => .inr rfl
theorem EncodeLength.sra_D : EncodeLength.Statement .sra_D := fun _ => .inr rfl
theorem EncodeLength.sra_E : EncodeLength.Statement .sra_E := fun _ => .inr rfl
theorem EncodeLength.sra_H : EncodeLength.Statement .sra_H := fun _ => .inr rfl
theorem EncodeLength.sra_L : EncodeLength.Statement .sra_L := fun _ => .inr rfl
theorem EncodeLength.sra_atHL : EncodeLength.Statement .sra_atHL := fun _ => .inr rfl
theorem EncodeLength.sra_A : EncodeLength.Statement .sra_A := fun _ => .inr rfl
theorem EncodeLength.swap_B : EncodeLength.Statement .swap_B := fun _ => .inr rfl
theorem EncodeLength.swap_C : EncodeLength.Statement .swap_C := fun _ => .inr rfl
theorem EncodeLength.swap_D : EncodeLength.Statement .swap_D := fun _ => .inr rfl
theorem EncodeLength.swap_E : EncodeLength.Statement .swap_E := fun _ => .inr rfl
theorem EncodeLength.swap_H : EncodeLength.Statement .swap_H := fun _ => .inr rfl
theorem EncodeLength.swap_L : EncodeLength.Statement .swap_L := fun _ => .inr rfl
theorem EncodeLength.swap_atHL : EncodeLength.Statement .swap_atHL := fun _ => .inr rfl
theorem EncodeLength.swap_A : EncodeLength.Statement .swap_A := fun _ => .inr rfl
theorem EncodeLength.srl_B : EncodeLength.Statement .srl_B := fun _ => .inr rfl
theorem EncodeLength.srl_C : EncodeLength.Statement .srl_C := fun _ => .inr rfl
theorem EncodeLength.srl_D : EncodeLength.Statement .srl_D := fun _ => .inr rfl
theorem EncodeLength.srl_E : EncodeLength.Statement .srl_E := fun _ => .inr rfl
theorem EncodeLength.srl_H : EncodeLength.Statement .srl_H := fun _ => .inr rfl
theorem EncodeLength.srl_L : EncodeLength.Statement .srl_L := fun _ => .inr rfl
theorem EncodeLength.srl_atHL : EncodeLength.Statement .srl_atHL := fun _ => .inr rfl
theorem EncodeLength.srl_A : EncodeLength.Statement .srl_A := fun _ => .inr rfl
theorem EncodeLength.bit_0_B : EncodeLength.Statement .bit_0_B := fun _ => .inr rfl
theorem EncodeLength.bit_0_C : EncodeLength.Statement .bit_0_C := fun _ => .inr rfl
theorem EncodeLength.bit_0_D : EncodeLength.Statement .bit_0_D := fun _ => .inr rfl
theorem EncodeLength.bit_0_E : EncodeLength.Statement .bit_0_E := fun _ => .inr rfl
theorem EncodeLength.bit_0_H : EncodeLength.Statement .bit_0_H := fun _ => .inr rfl
theorem EncodeLength.bit_0_L : EncodeLength.Statement .bit_0_L := fun _ => .inr rfl
theorem EncodeLength.bit_0_atHL : EncodeLength.Statement .bit_0_atHL := fun _ => .inr rfl
theorem EncodeLength.bit_0_A : EncodeLength.Statement .bit_0_A := fun _ => .inr rfl
theorem EncodeLength.bit_1_B : EncodeLength.Statement .bit_1_B := fun _ => .inr rfl
theorem EncodeLength.bit_1_C : EncodeLength.Statement .bit_1_C := fun _ => .inr rfl
theorem EncodeLength.bit_1_D : EncodeLength.Statement .bit_1_D := fun _ => .inr rfl
theorem EncodeLength.bit_1_E : EncodeLength.Statement .bit_1_E := fun _ => .inr rfl
theorem EncodeLength.bit_1_H : EncodeLength.Statement .bit_1_H := fun _ => .inr rfl
theorem EncodeLength.bit_1_L : EncodeLength.Statement .bit_1_L := fun _ => .inr rfl
theorem EncodeLength.bit_1_atHL : EncodeLength.Statement .bit_1_atHL := fun _ => .inr rfl
theorem EncodeLength.bit_1_A : EncodeLength.Statement .bit_1_A := fun _ => .inr rfl
theorem EncodeLength.bit_2_B : EncodeLength.Statement .bit_2_B := fun _ => .inr rfl
theorem EncodeLength.bit_2_C : EncodeLength.Statement .bit_2_C := fun _ => .inr rfl
theorem EncodeLength.bit_2_D : EncodeLength.Statement .bit_2_D := fun _ => .inr rfl
theorem EncodeLength.bit_2_E : EncodeLength.Statement .bit_2_E := fun _ => .inr rfl
theorem EncodeLength.bit_2_H : EncodeLength.Statement .bit_2_H := fun _ => .inr rfl
theorem EncodeLength.bit_2_L : EncodeLength.Statement .bit_2_L := fun _ => .inr rfl
theorem EncodeLength.bit_2_atHL : EncodeLength.Statement .bit_2_atHL := fun _ => .inr rfl
theorem EncodeLength.bit_2_A : EncodeLength.Statement .bit_2_A := fun _ => .inr rfl
theorem EncodeLength.bit_3_B : EncodeLength.Statement .bit_3_B := fun _ => .inr rfl
theorem EncodeLength.bit_3_C : EncodeLength.Statement .bit_3_C := fun _ => .inr rfl
theorem EncodeLength.bit_3_D : EncodeLength.Statement .bit_3_D := fun _ => .inr rfl
theorem EncodeLength.bit_3_E : EncodeLength.Statement .bit_3_E := fun _ => .inr rfl
theorem EncodeLength.bit_3_H : EncodeLength.Statement .bit_3_H := fun _ => .inr rfl
theorem EncodeLength.bit_3_L : EncodeLength.Statement .bit_3_L := fun _ => .inr rfl
theorem EncodeLength.bit_3_atHL : EncodeLength.Statement .bit_3_atHL := fun _ => .inr rfl
theorem EncodeLength.bit_3_A : EncodeLength.Statement .bit_3_A := fun _ => .inr rfl
theorem EncodeLength.bit_4_B : EncodeLength.Statement .bit_4_B := fun _ => .inr rfl
theorem EncodeLength.bit_4_C : EncodeLength.Statement .bit_4_C := fun _ => .inr rfl
theorem EncodeLength.bit_4_D : EncodeLength.Statement .bit_4_D := fun _ => .inr rfl
theorem EncodeLength.bit_4_E : EncodeLength.Statement .bit_4_E := fun _ => .inr rfl
theorem EncodeLength.bit_4_H : EncodeLength.Statement .bit_4_H := fun _ => .inr rfl
theorem EncodeLength.bit_4_L : EncodeLength.Statement .bit_4_L := fun _ => .inr rfl
theorem EncodeLength.bit_4_atHL : EncodeLength.Statement .bit_4_atHL := fun _ => .inr rfl
theorem EncodeLength.bit_4_A : EncodeLength.Statement .bit_4_A := fun _ => .inr rfl
theorem EncodeLength.bit_5_B : EncodeLength.Statement .bit_5_B := fun _ => .inr rfl
theorem EncodeLength.bit_5_C : EncodeLength.Statement .bit_5_C := fun _ => .inr rfl
theorem EncodeLength.bit_5_D : EncodeLength.Statement .bit_5_D := fun _ => .inr rfl
theorem EncodeLength.bit_5_E : EncodeLength.Statement .bit_5_E := fun _ => .inr rfl
theorem EncodeLength.bit_5_H : EncodeLength.Statement .bit_5_H := fun _ => .inr rfl
theorem EncodeLength.bit_5_L : EncodeLength.Statement .bit_5_L := fun _ => .inr rfl
theorem EncodeLength.bit_5_atHL : EncodeLength.Statement .bit_5_atHL := fun _ => .inr rfl
theorem EncodeLength.bit_5_A : EncodeLength.Statement .bit_5_A := fun _ => .inr rfl
theorem EncodeLength.bit_6_B : EncodeLength.Statement .bit_6_B := fun _ => .inr rfl
theorem EncodeLength.bit_6_C : EncodeLength.Statement .bit_6_C := fun _ => .inr rfl
theorem EncodeLength.bit_6_D : EncodeLength.Statement .bit_6_D := fun _ => .inr rfl
theorem EncodeLength.bit_6_E : EncodeLength.Statement .bit_6_E := fun _ => .inr rfl
theorem EncodeLength.bit_6_H : EncodeLength.Statement .bit_6_H := fun _ => .inr rfl
theorem EncodeLength.bit_6_L : EncodeLength.Statement .bit_6_L := fun _ => .inr rfl
theorem EncodeLength.bit_6_atHL : EncodeLength.Statement .bit_6_atHL := fun _ => .inr rfl
theorem EncodeLength.bit_6_A : EncodeLength.Statement .bit_6_A := fun _ => .inr rfl
theorem EncodeLength.bit_7_B : EncodeLength.Statement .bit_7_B := fun _ => .inr rfl
theorem EncodeLength.bit_7_C : EncodeLength.Statement .bit_7_C := fun _ => .inr rfl
theorem EncodeLength.bit_7_D : EncodeLength.Statement .bit_7_D := fun _ => .inr rfl
theorem EncodeLength.bit_7_E : EncodeLength.Statement .bit_7_E := fun _ => .inr rfl
theorem EncodeLength.bit_7_H : EncodeLength.Statement .bit_7_H := fun _ => .inr rfl
theorem EncodeLength.bit_7_L : EncodeLength.Statement .bit_7_L := fun _ => .inr rfl
theorem EncodeLength.bit_7_atHL : EncodeLength.Statement .bit_7_atHL := fun _ => .inr rfl
theorem EncodeLength.bit_7_A : EncodeLength.Statement .bit_7_A := fun _ => .inr rfl
theorem EncodeLength.res_0_B : EncodeLength.Statement .res_0_B := fun _ => .inr rfl
theorem EncodeLength.res_0_C : EncodeLength.Statement .res_0_C := fun _ => .inr rfl
theorem EncodeLength.res_0_D : EncodeLength.Statement .res_0_D := fun _ => .inr rfl
theorem EncodeLength.res_0_E : EncodeLength.Statement .res_0_E := fun _ => .inr rfl
theorem EncodeLength.res_0_H : EncodeLength.Statement .res_0_H := fun _ => .inr rfl
theorem EncodeLength.res_0_L : EncodeLength.Statement .res_0_L := fun _ => .inr rfl
theorem EncodeLength.res_0_atHL : EncodeLength.Statement .res_0_atHL := fun _ => .inr rfl
theorem EncodeLength.res_0_A : EncodeLength.Statement .res_0_A := fun _ => .inr rfl
theorem EncodeLength.res_1_B : EncodeLength.Statement .res_1_B := fun _ => .inr rfl
theorem EncodeLength.res_1_C : EncodeLength.Statement .res_1_C := fun _ => .inr rfl
theorem EncodeLength.res_1_D : EncodeLength.Statement .res_1_D := fun _ => .inr rfl
theorem EncodeLength.res_1_E : EncodeLength.Statement .res_1_E := fun _ => .inr rfl
theorem EncodeLength.res_1_H : EncodeLength.Statement .res_1_H := fun _ => .inr rfl
theorem EncodeLength.res_1_L : EncodeLength.Statement .res_1_L := fun _ => .inr rfl
theorem EncodeLength.res_1_atHL : EncodeLength.Statement .res_1_atHL := fun _ => .inr rfl
theorem EncodeLength.res_1_A : EncodeLength.Statement .res_1_A := fun _ => .inr rfl
theorem EncodeLength.res_2_B : EncodeLength.Statement .res_2_B := fun _ => .inr rfl
theorem EncodeLength.res_2_C : EncodeLength.Statement .res_2_C := fun _ => .inr rfl
theorem EncodeLength.res_2_D : EncodeLength.Statement .res_2_D := fun _ => .inr rfl
theorem EncodeLength.res_2_E : EncodeLength.Statement .res_2_E := fun _ => .inr rfl
theorem EncodeLength.res_2_H : EncodeLength.Statement .res_2_H := fun _ => .inr rfl
theorem EncodeLength.res_2_L : EncodeLength.Statement .res_2_L := fun _ => .inr rfl
theorem EncodeLength.res_2_atHL : EncodeLength.Statement .res_2_atHL := fun _ => .inr rfl
theorem EncodeLength.res_2_A : EncodeLength.Statement .res_2_A := fun _ => .inr rfl
theorem EncodeLength.res_3_B : EncodeLength.Statement .res_3_B := fun _ => .inr rfl
theorem EncodeLength.res_3_C : EncodeLength.Statement .res_3_C := fun _ => .inr rfl
theorem EncodeLength.res_3_D : EncodeLength.Statement .res_3_D := fun _ => .inr rfl
theorem EncodeLength.res_3_E : EncodeLength.Statement .res_3_E := fun _ => .inr rfl
theorem EncodeLength.res_3_H : EncodeLength.Statement .res_3_H := fun _ => .inr rfl
theorem EncodeLength.res_3_L : EncodeLength.Statement .res_3_L := fun _ => .inr rfl
theorem EncodeLength.res_3_atHL : EncodeLength.Statement .res_3_atHL := fun _ => .inr rfl
theorem EncodeLength.res_3_A : EncodeLength.Statement .res_3_A := fun _ => .inr rfl
theorem EncodeLength.res_4_B : EncodeLength.Statement .res_4_B := fun _ => .inr rfl
theorem EncodeLength.res_4_C : EncodeLength.Statement .res_4_C := fun _ => .inr rfl
theorem EncodeLength.res_4_D : EncodeLength.Statement .res_4_D := fun _ => .inr rfl
theorem EncodeLength.res_4_E : EncodeLength.Statement .res_4_E := fun _ => .inr rfl
theorem EncodeLength.res_4_H : EncodeLength.Statement .res_4_H := fun _ => .inr rfl
theorem EncodeLength.res_4_L : EncodeLength.Statement .res_4_L := fun _ => .inr rfl
theorem EncodeLength.res_4_atHL : EncodeLength.Statement .res_4_atHL := fun _ => .inr rfl
theorem EncodeLength.res_4_A : EncodeLength.Statement .res_4_A := fun _ => .inr rfl
theorem EncodeLength.res_5_B : EncodeLength.Statement .res_5_B := fun _ => .inr rfl
theorem EncodeLength.res_5_C : EncodeLength.Statement .res_5_C := fun _ => .inr rfl
theorem EncodeLength.res_5_D : EncodeLength.Statement .res_5_D := fun _ => .inr rfl
theorem EncodeLength.res_5_E : EncodeLength.Statement .res_5_E := fun _ => .inr rfl
theorem EncodeLength.res_5_H : EncodeLength.Statement .res_5_H := fun _ => .inr rfl
theorem EncodeLength.res_5_L : EncodeLength.Statement .res_5_L := fun _ => .inr rfl
theorem EncodeLength.res_5_atHL : EncodeLength.Statement .res_5_atHL := fun _ => .inr rfl
theorem EncodeLength.res_5_A : EncodeLength.Statement .res_5_A := fun _ => .inr rfl
theorem EncodeLength.res_6_B : EncodeLength.Statement .res_6_B := fun _ => .inr rfl
theorem EncodeLength.res_6_C : EncodeLength.Statement .res_6_C := fun _ => .inr rfl
theorem EncodeLength.res_6_D : EncodeLength.Statement .res_6_D := fun _ => .inr rfl
theorem EncodeLength.res_6_E : EncodeLength.Statement .res_6_E := fun _ => .inr rfl
theorem EncodeLength.res_6_H : EncodeLength.Statement .res_6_H := fun _ => .inr rfl
theorem EncodeLength.res_6_L : EncodeLength.Statement .res_6_L := fun _ => .inr rfl
theorem EncodeLength.res_6_atHL : EncodeLength.Statement .res_6_atHL := fun _ => .inr rfl
theorem EncodeLength.res_6_A : EncodeLength.Statement .res_6_A := fun _ => .inr rfl
theorem EncodeLength.res_7_B : EncodeLength.Statement .res_7_B := fun _ => .inr rfl
theorem EncodeLength.res_7_C : EncodeLength.Statement .res_7_C := fun _ => .inr rfl
theorem EncodeLength.res_7_D : EncodeLength.Statement .res_7_D := fun _ => .inr rfl
theorem EncodeLength.res_7_E : EncodeLength.Statement .res_7_E := fun _ => .inr rfl
theorem EncodeLength.res_7_H : EncodeLength.Statement .res_7_H := fun _ => .inr rfl
theorem EncodeLength.res_7_L : EncodeLength.Statement .res_7_L := fun _ => .inr rfl
theorem EncodeLength.res_7_atHL : EncodeLength.Statement .res_7_atHL := fun _ => .inr rfl
theorem EncodeLength.res_7_A : EncodeLength.Statement .res_7_A := fun _ => .inr rfl
theorem EncodeLength.set_0_B : EncodeLength.Statement .set_0_B := fun _ => .inr rfl
theorem EncodeLength.set_0_C : EncodeLength.Statement .set_0_C := fun _ => .inr rfl
theorem EncodeLength.set_0_D : EncodeLength.Statement .set_0_D := fun _ => .inr rfl
theorem EncodeLength.set_0_E : EncodeLength.Statement .set_0_E := fun _ => .inr rfl
theorem EncodeLength.set_0_H : EncodeLength.Statement .set_0_H := fun _ => .inr rfl
theorem EncodeLength.set_0_L : EncodeLength.Statement .set_0_L := fun _ => .inr rfl
theorem EncodeLength.set_0_atHL : EncodeLength.Statement .set_0_atHL := fun _ => .inr rfl
theorem EncodeLength.set_0_A : EncodeLength.Statement .set_0_A := fun _ => .inr rfl
theorem EncodeLength.set_1_B : EncodeLength.Statement .set_1_B := fun _ => .inr rfl
theorem EncodeLength.set_1_C : EncodeLength.Statement .set_1_C := fun _ => .inr rfl
theorem EncodeLength.set_1_D : EncodeLength.Statement .set_1_D := fun _ => .inr rfl
theorem EncodeLength.set_1_E : EncodeLength.Statement .set_1_E := fun _ => .inr rfl
theorem EncodeLength.set_1_H : EncodeLength.Statement .set_1_H := fun _ => .inr rfl
theorem EncodeLength.set_1_L : EncodeLength.Statement .set_1_L := fun _ => .inr rfl
theorem EncodeLength.set_1_atHL : EncodeLength.Statement .set_1_atHL := fun _ => .inr rfl
theorem EncodeLength.set_1_A : EncodeLength.Statement .set_1_A := fun _ => .inr rfl
theorem EncodeLength.set_2_B : EncodeLength.Statement .set_2_B := fun _ => .inr rfl
theorem EncodeLength.set_2_C : EncodeLength.Statement .set_2_C := fun _ => .inr rfl
theorem EncodeLength.set_2_D : EncodeLength.Statement .set_2_D := fun _ => .inr rfl
theorem EncodeLength.set_2_E : EncodeLength.Statement .set_2_E := fun _ => .inr rfl
theorem EncodeLength.set_2_H : EncodeLength.Statement .set_2_H := fun _ => .inr rfl
theorem EncodeLength.set_2_L : EncodeLength.Statement .set_2_L := fun _ => .inr rfl
theorem EncodeLength.set_2_atHL : EncodeLength.Statement .set_2_atHL := fun _ => .inr rfl
theorem EncodeLength.set_2_A : EncodeLength.Statement .set_2_A := fun _ => .inr rfl
theorem EncodeLength.set_3_B : EncodeLength.Statement .set_3_B := fun _ => .inr rfl
theorem EncodeLength.set_3_C : EncodeLength.Statement .set_3_C := fun _ => .inr rfl
theorem EncodeLength.set_3_D : EncodeLength.Statement .set_3_D := fun _ => .inr rfl
theorem EncodeLength.set_3_E : EncodeLength.Statement .set_3_E := fun _ => .inr rfl
theorem EncodeLength.set_3_H : EncodeLength.Statement .set_3_H := fun _ => .inr rfl
theorem EncodeLength.set_3_L : EncodeLength.Statement .set_3_L := fun _ => .inr rfl
theorem EncodeLength.set_3_atHL : EncodeLength.Statement .set_3_atHL := fun _ => .inr rfl
theorem EncodeLength.set_3_A : EncodeLength.Statement .set_3_A := fun _ => .inr rfl
theorem EncodeLength.set_4_B : EncodeLength.Statement .set_4_B := fun _ => .inr rfl
theorem EncodeLength.set_4_C : EncodeLength.Statement .set_4_C := fun _ => .inr rfl
theorem EncodeLength.set_4_D : EncodeLength.Statement .set_4_D := fun _ => .inr rfl
theorem EncodeLength.set_4_E : EncodeLength.Statement .set_4_E := fun _ => .inr rfl
theorem EncodeLength.set_4_H : EncodeLength.Statement .set_4_H := fun _ => .inr rfl
theorem EncodeLength.set_4_L : EncodeLength.Statement .set_4_L := fun _ => .inr rfl
theorem EncodeLength.set_4_atHL : EncodeLength.Statement .set_4_atHL := fun _ => .inr rfl
theorem EncodeLength.set_4_A : EncodeLength.Statement .set_4_A := fun _ => .inr rfl
theorem EncodeLength.set_5_B : EncodeLength.Statement .set_5_B := fun _ => .inr rfl
theorem EncodeLength.set_5_C : EncodeLength.Statement .set_5_C := fun _ => .inr rfl
theorem EncodeLength.set_5_D : EncodeLength.Statement .set_5_D := fun _ => .inr rfl
theorem EncodeLength.set_5_E : EncodeLength.Statement .set_5_E := fun _ => .inr rfl
theorem EncodeLength.set_5_H : EncodeLength.Statement .set_5_H := fun _ => .inr rfl
theorem EncodeLength.set_5_L : EncodeLength.Statement .set_5_L := fun _ => .inr rfl
theorem EncodeLength.set_5_atHL : EncodeLength.Statement .set_5_atHL := fun _ => .inr rfl
theorem EncodeLength.set_5_A : EncodeLength.Statement .set_5_A := fun _ => .inr rfl
theorem EncodeLength.set_6_B : EncodeLength.Statement .set_6_B := fun _ => .inr rfl
theorem EncodeLength.set_6_C : EncodeLength.Statement .set_6_C := fun _ => .inr rfl
theorem EncodeLength.set_6_D : EncodeLength.Statement .set_6_D := fun _ => .inr rfl
theorem EncodeLength.set_6_E : EncodeLength.Statement .set_6_E := fun _ => .inr rfl
theorem EncodeLength.set_6_H : EncodeLength.Statement .set_6_H := fun _ => .inr rfl
theorem EncodeLength.set_6_L : EncodeLength.Statement .set_6_L := fun _ => .inr rfl
theorem EncodeLength.set_6_atHL : EncodeLength.Statement .set_6_atHL := fun _ => .inr rfl
theorem EncodeLength.set_6_A : EncodeLength.Statement .set_6_A := fun _ => .inr rfl
theorem EncodeLength.set_7_B : EncodeLength.Statement .set_7_B := fun _ => .inr rfl
theorem EncodeLength.set_7_C : EncodeLength.Statement .set_7_C := fun _ => .inr rfl
theorem EncodeLength.set_7_D : EncodeLength.Statement .set_7_D := fun _ => .inr rfl
theorem EncodeLength.set_7_E : EncodeLength.Statement .set_7_E := fun _ => .inr rfl
theorem EncodeLength.set_7_H : EncodeLength.Statement .set_7_H := fun _ => .inr rfl
theorem EncodeLength.set_7_L : EncodeLength.Statement .set_7_L := fun _ => .inr rfl
theorem EncodeLength.set_7_atHL : EncodeLength.Statement .set_7_atHL := fun _ => .inr rfl
theorem EncodeLength.set_7_A : EncodeLength.Statement .set_7_A := fun _ => .inr rfl

end Sys2Proof.Laws
end

