-- ==== Sys2Proof/Laws/Step.lean ====
section
/-! SUPPORT. What a step can do, said once: the host's events, then (unless the CPU is in `Fatal`) at most two byte
stores, new CPU registers and a new `IF`, then the devices for at most 24 T-cycles. Every step answers a next state. -/

namespace Sys2Proof.Machine

open Sys2Proof

/-- `IF` replaced. -/
def State.setIf (s : State) (r : BitVec 5) : State := { s with bus := { s.bus with ifReg := r } }

@[simp] theorem State.setIf_cpu (s : State) (r : BitVec 5) : (s.setIf r).cpu = s.cpu := rfl

theorem State.setIf_self (s : State) : s.setIf s.bus.ifReg = s := rfl

/-- What a CPU step can do to the state. -/
def CpuEffect (s t : State) : Prop :=
  ∃ (ws : List (Word × Byte)) (r : BitVec 5) (c : Cpu), ws.length ≤ 2 ∧ t = ((afterStores s ws).setIf r).setCpu c ∧
    c.cycles ≤ 24 ∧ (s.cpu.FlagsClean → c.FlagsClean)

/-- An instruction's effect is one of a CPU step. -/
theorem Effect.toCpuEffect {s t : State} (h : Effect s t) : CpuEffect s t := by
  obtain ⟨ws, c, hl, ht, hc, hf⟩ := h
  exact ⟨ws, (afterStores s ws).bus.ifReg, c, hl, ht, hc, hf⟩

theorem afterStores_setCpu (s : State) (c : Cpu) (ws : List (Word × Byte)) :
    afterStores (s.setCpu c) ws = (afterStores s ws).setCpu c := by
  induction ws generalizing s with
  | nil => rfl
  | cons w ws ih =>
    obtain ⟨a, v⟩ := w
    simp only [afterStores_cons, write8_setCpu]
    exact ih (write8 s a v)

/-- A CPU step's effect seen from a state with other CPU registers. -/
theorem CpuEffect.ofSetCpu {s t : State} {d : Cpu} (hd : s.cpu.FlagsClean → d.FlagsClean)
    (h : CpuEffect (s.setCpu d) t) : CpuEffect s t := by
  obtain ⟨ws, r, c, hl, ht, hc, hf⟩ := h
  refine ⟨ws, r, c, hl, ?_, hc, fun hs => hf (hd hs)⟩
  rw [ht, afterStores_setCpu]
  rfl

/-- Waking changes the mode alone. -/
theorem wake_eq (s : State) : ∃ m : CpuMode, wake s = s.setCpu { s.cpu with mode := m } := by
  unfold wake
  split
  · split
    · exact ⟨s.cpu.mode, rfl⟩
    · exact ⟨.running, rfl⟩
  · split
    · exact ⟨.running, rfl⟩
    · exact ⟨s.cpu.mode, rfl⟩
  · exact ⟨s.cpu.mode, rfl⟩
  · exact ⟨s.cpu.mode, rfl⟩

/-- Taking an interrupt (60_exceptions.md R281). -/
theorem dispatch_effect (s : State) : CpuEffect s (dispatch s) := by
  unfold dispatch takeInterrupt
  generalize firstSource (pending s) = i
  refine ⟨[(s.cpu.sp - 2#16, loByte s.cpu.pc), (s.cpu.sp - 2#16 + 1#16, hiByte s.cpu.pc)],
    (write16 s (s.cpu.sp - 2#16) s.cpu.pc).bus.ifReg &&& ~~~(1#5 <<< i),
    { s.cpu with sp := s.cpu.sp - 2#16, ime := false, eiPending := false, pc := vector i, cycles := 20 },
    by simp, ?_, by simp, id⟩
  rw [push16_eq]
  rfl

/-- The delayed `EI` keeps an effect. -/
theorem armInterrupts_effect {s t : State} (b : Bool) (h : CpuEffect s t) : CpuEffect s (armInterrupts b t) := by
  unfold armInterrupts
  split
  · obtain ⟨ws, r, c, hl, rfl, hc, hf⟩ := h
    exact ⟨ws, r, { c with ime := true, eiPending := false }, hl, rfl, hc, hf⟩
  · exact h

/-- Executing an instruction completes with a CPU step's effect. -/
theorem execute_effect (s : State) : ∃ t, execute s = .next t ∧ CpuEffect s t := by
  obtain ⟨t, ht, he⟩ := exec_effect (fetched s).1 (advance s (fetched s).2)
  refine ⟨armInterrupts s.cpu.eiPending t, by simp only [execute, ht], armInterrupts_effect _ ?_⟩
  exact CpuEffect.ofSetCpu (d := { s.cpu with pc := s.cpu.pc + BitVec.ofNat 16 (fetched s).2 }) id he.toCpuEffect

/-- An idle period. -/
theorem idleStep_effect (s : State) : CpuEffect s (s.spend 4) :=
  ⟨[], s.bus.ifReg, { s.cpu with cycles := 4 }, by simp, rfl, by simp, id⟩

/-- The step after the wake-up test completes. -/
theorem afterWake_effect {w : State} (hm : w.cpu.mode ≠ .fatal) : ∃ t, afterWake w = .next t ∧ CpuEffect w t := by
  unfold afterWake
  cases hw : w.cpu.mode with
  | running =>
    by_cases hp : w.cpu.ime ∧ pending w ≠ 0#5
    · exact ⟨dispatch w, if_pos hp, dispatch_effect w⟩
    · obtain ⟨t, ht, he⟩ := execute_effect w
      exact ⟨t, (if_neg hp).trans ht, he⟩
  | halted => exact ⟨_, rfl, idleStep_effect w⟩
  | stopped => exact ⟨_, rfl, idleStep_effect w⟩
  | fatal => exact absurd hw hm

/-- Waking never enters `Fatal`. -/
theorem wake_mode {s : State} (hm : s.cpu.mode ≠ .fatal) : (wake s).cpu.mode ≠ .fatal := by
  unfold wake
  split
  · split
    · exact hm
    · exact fun h => by cases h
  · split
    · exact fun h => by cases h
    · exact hm
  · exact hm
  · exact hm

/-- A CPU step of a CPU that is not in `Fatal` completes. -/
theorem cpuStep_effect {s : State} (hm : s.cpu.mode ≠ .fatal) : ∃ t, cpuStep s = .next t ∧ CpuEffect s t := by
  obtain ⟨t, ht, he⟩ := afterWake_effect (wake_mode hm)
  refine ⟨t, ht, ?_⟩
  obtain ⟨m, hm'⟩ := wake_eq s
  rw [hm'] at he
  exact CpuEffect.ofSetCpu (d := { s.cpu with mode := m }) id he

/-- A tick completes, and this is all it can do. -/
theorem tick_effect (s : State) :
    (s.cpu.mode = .fatal ∧ tick s = .next s) ∨
      (s.cpu.mode ≠ .fatal ∧ ∃ u, CpuEffect s u ∧ tick s = .next (busCycle u.cpu.cycles u)) := by
  by_cases hm : s.cpu.mode = .fatal
  · exact .inl ⟨hm, by simp [tick, hm]⟩
  · obtain ⟨u, hu, he⟩ := cpuStep_effect hm
    exact .inr ⟨hm, u, he, by simp only [tick, if_neg hm, hu]⟩

/-- Every step answers a next state. -/
theorem step_next (s : State) : ∃ t, step s = .next t := by
  rcases tick_effect (deliver s) with ⟨_, h⟩ | ⟨_, u, _, h⟩
  · exact ⟨_, h⟩
  · exact ⟨_, h⟩

/-- A property that the host's events, byte stores, register updates and device cycles keep is kept by every step. -/
theorem step_invariant (P : State → Prop) (hd : ∀ s, P s → P (deliver s))
    (hw : ∀ s a v, P s → P (write8 s a v)) (hc : ∀ s c, P s → P (s.setCpu c)) (hi : ∀ s r, P s → P (s.setIf r))
    (hb : ∀ s n, n ≤ 24 → P s → P (busCycle n s)) {s t : State} (hs : P s) (h : step s = .next t) : P t := by
  have h0 := hd s hs
  rcases tick_effect (deliver s) with ⟨_, ht⟩ | ⟨_, u, ⟨ws, r, c, _, rfl, hn, _⟩, ht⟩
  · rw [step, ht] at h
    injection h with h
    exact h ▸ h0
  · rw [step, ht] at h
    injection h with h
    exact h ▸ hb _ _ hn (hc _ _ (hi _ _ (afterStores_invariant P hw h0 ws)))

/-- What every event keeps, the events of a boundary keep. -/
theorem applyEvents_invariant (P : State → Prop) (he : ∀ s e, P s → P (applyEvent s e)) (es : List HostEvent) {s : State}
    (hs : P s) : P (applyEvents es s) := by
  induction es generalizing s with
  | nil => exact hs
  | cons e es ih => exact ih (he s e hs)

/-- What every event keeps, whatever the queue holds, a tick boundary keeps. -/
theorem deliver_invariant (P : State → Prop) (he : ∀ s e, P s → P (applyEvent s e))
    (hq : ∀ (s : State) q, P s → P { s with inputs := q }) {s : State} (hs : P s) : P (deliver s) := by
  unfold deliver
  split
  · exact hs
  · exact applyEvents_invariant P he _ (hq s _ hs)

end Sys2Proof.Machine
end

