-- ==== Sys2Proof/Tests/Slice0.lean ====
section
/-! SUPPORT. Small tests of the model: the well-formedness checks, words written out from the opcode grids, one step on a
small state with the results of spec/95_test_vectors.md, and for each statement with hypotheses a state that meets them. -/

namespace Sys2Proof.Tests

open Sys2Proof Sys2Proof.Machine

/-! Well-formedness: the one check is that `undefined` holds an unassigned byte (30_encoding.md R138). -/

theorem test_wellFormed_refuses_assigned_byte : (Instr.undefined 0x00#8).wellFormed = false := by decide

theorem test_wellFormed_refuses_prefix_byte : (Instr.undefined 0xCB#8).wellFormed = false := by decide

theorem test_wellFormed_accepts_unassigned_byte : (Instr.undefined 0xED#8).wellFormed = true := by decide

theorem test_wellFormed_accepts_ordinary : (Instr.ld_B_C).wellFormed = true := by decide

/-! Words written out bit by bit from the encodings (30_encoding.md R131, R133, R135), one for each family. -/

theorem test_decode_load8 :
    decode [0b01_010_011#8] = .ok (.ld_D_E, 1) ∧ decode [0b00_110_110#8, 0x99#8] = .ok (.ld_atHL_d8 0x99#8, 2) ∧
      decode [0b00_101_010#8] = .ok (.ld_A_atHLI, 1) ∧ decode [0b11_110_010#8] = .ok (.ld_A_atC, 1) ∧
      decode [0b11_111_010#8, 0x44#8, 0xFF#8] = .ok (.ld_A_atA16 0xFF44#16, 3) := by decide

theorem test_decode_load16 :
    decode [0b00_110_001#8, 0xFE#8, 0xFF#8] = .ok (.ld_SP_d16 0xFFFE#16, 3) ∧
      decode [0b11_110_101#8] = .ok (.push_AF, 1) ∧ decode [0b11_111_000#8, 0x08#8] = .ok (.ld_HL_SPe8 0x08#8, 2) := by
  decide

theorem test_decode_alu8 :
    decode [0b10_001_011#8] = .ok (.adc_A_E, 1) ∧ decode [0b10_111_110#8] = .ok (.cp_atHL, 1) ∧
      decode [0b11_101_110#8, 0x0F#8] = .ok (.xor_d8 0x0F#8, 2) ∧ decode [0b00_100_111#8] = .ok (.daa, 1) := by decide

theorem test_decode_alu16 :
    decode [0b00_001_001#8] = .ok (.add_HL_BC, 1) ∧ decode [0b00_111_011#8] = .ok (.dec_SP, 1) ∧
      decode [0b11_101_000#8, 0xFE#8] = .ok (.add_SP_e8 0xFE#8, 2) := by decide

theorem test_decode_rotateBit :
    decode [0b00_011_111#8] = .ok (.rra, 1) ∧ decode [0xCB#8, 0b00_101_111#8] = .ok (.sra_A, 2) ∧
      decode [0xCB#8, 0b01_111_100#8] = .ok (.bit_7_H, 2) ∧ decode [0xCB#8, 0b10_000_110#8] = .ok (.res_0_atHL, 2) ∧
      decode [0xCB#8, 0b11_011_111#8] = .ok (.set_3_A, 2) := by decide

theorem test_decode_control :
    decode [0b00_100_000#8, 0xFB#8] = .ok (.jr_NZ_e8 0xFB#8, 2) ∧
      decode [0b11_001_101#8, 0x00#8, 0x02#8] = .ok (.call_a16 0x0200#16, 3) ∧
      decode [0b11_011_000#8] = .ok (.ret_C, 1) ∧ decode [0b11_101_111#8] = .ok (.rst_28, 1) := by decide

theorem test_decode_system :
    decode [0b01_110_110#8] = .ok (.halt, 1) ∧ decode [0b00_010_000#8, 0xDD#8] = .ok (.stop 0xDD#8, 2) ∧
      decode [0b11_111_011#8] = .ok (.ei, 1) ∧ decode [0xDD#8] = .ok (.undefined 0xDD#8, 1) := by decide

theorem test_decode_truncated : (decode [] matches .ok _) = false ∧ (decode [0xC3#8, 0x00#8] matches .ok _) = false := by
  decide

/-! A small state: CPU registers, and bytes stored over the state after reset. -/

/-- The reset registers with `pc` past a one-byte instruction at `0xC000`. -/
def regs : Cpu := { Cpu.reset with pc := 0xC001#16 }

/-- The reset state with these registers and these bytes. -/
def small (c : Cpu) (bytes : List (Word × Byte)) : State :=
  (bytes.foldl (fun s p => poke s p.1 p.2) State.reset).setCpu c

/-- The registers after an instruction. -/
def cpuAfter (i : Instr) (s : State) : Option Cpu :=
  match exec i s with
  | .next t => some t.cpu
  | _ => none

/-- A byte the bus reads after an instruction. -/
def byteAfter (i : Instr) (s : State) (a : Word) : Option Byte :=
  match exec i s with
  | .next t => some (read8 t a)
  | _ => none

/-! One instruction, with the results of 95_test_vectors.md section 2 (the vector's number in each name). -/

theorem test_V1_ld_r_r :
    cpuAfter .ld_B_C (small { regs with b := 0x12#8, c := 0x34#8 } []) =
      some { regs with b := 0x34#8, c := 0x34#8, cycles := 4 } := by decide

theorem test_V4_ld_h_from_hl :
    cpuAfter .ld_H_atHL (small { regs with h := 0xC1#8, l := 0x00#8 } [(0xC100#16, 0x5A#8)]) =
      some { regs with h := 0x5A#8, l := 0x00#8, cycles := 8 } := by decide

theorem test_V5_store_l :
    byteAfter .ld_atHL_L (small { regs with h := 0xC1#8, l := 0x23#8 } []) 0xC123#16 = some 0x23#8 := by decide

theorem test_V18_echo :
    byteAfter (.ld_atA16_A 0xFD00#16) (small { regs with a := 0x66#8 } []) 0xDD00#16 = some 0x66#8 := by decide

theorem test_V27_store_wraps_hl :
    cpuAfter .ld_atHLI_A (small { regs with a := 0x1F#8, h := 0xFF#8, l := 0xFF#8 } []) =
        some { regs with a := 0x1F#8, h := 0x00#8, l := 0x00#8, cycles := 8 } ∧
      byteAfter .ld_atHLI_A (small { regs with a := 0x1F#8, h := 0xFF#8, l := 0xFF#8 } []) 0xFFFF#16 = some 0x1F#8 := by
  decide

theorem test_V19_read_if :
    cpuAfter (.ldh_A_atA8 0x0F#8) (small regs []) = some { regs with a := 0xE1#8, cycles := 12 } := by decide

theorem test_V34_store_sp :
    byteAfter (.ld_atA16_SP 0xC100#16) (small { regs with sp := 0xFFF8#16 } []) 0xC100#16 = some 0xF8#8 ∧
      byteAfter (.ld_atA16_SP 0xC100#16) (small { regs with sp := 0xFFF8#16 } []) 0xC101#16 = some 0xFF#8 := by decide

theorem test_V38_hl_sp_offset :
    cpuAfter (.ld_HL_SPe8 0xFF#8) (small { regs with sp := 0x0001#16 } []) =
      some { regs with sp := 0x0001#16, h := 0x00#8, l := 0x00#8, f := 0x30#8, cycles := 12 } := by decide

theorem test_V40_push :
    cpuAfter .push_BC (small { regs with b := 0x12#8, c := 0x34#8 } []) =
        some { regs with b := 0x12#8, c := 0x34#8, sp := 0xFFFC#16, cycles := 16 } ∧
      byteAfter .push_BC (small { regs with b := 0x12#8, c := 0x34#8 } []) 0xFFFC#16 = some 0x34#8 ∧
      byteAfter .push_BC (small { regs with b := 0x12#8, c := 0x34#8 } []) 0xFFFD#16 = some 0x12#8 := by decide

theorem test_V44_pop_af :
    cpuAfter .pop_AF (small { regs with sp := 0xD000#16 } [(0xD000#16, 0xFF#8), (0xD001#16, 0x12#8)]) =
      some { regs with a := 0x12#8, f := 0xF0#8, sp := 0xD002#16, cycles := 12 } := by decide

theorem test_V46_add :
    cpuAfter .add_A_B (small { regs with a := 0x3A#8, b := 0xC6#8, f := 0x00#8 } []) =
      some { regs with a := 0x00#8, b := 0xC6#8, f := 0xB0#8, cycles := 4 } := by decide

theorem test_V53_adc :
    cpuAfter (.adc_A_d8 0xFF#8) (small { regs with a := 0x00#8, f := 0x10#8 } []) =
      some { regs with a := 0x00#8, f := 0xB0#8, cycles := 8 } := by decide

theorem test_V54_sub :
    cpuAfter (.sub_d8 0x40#8) (small { regs with a := 0x3E#8, f := 0x00#8 } []) =
      some { regs with a := 0xFE#8, f := 0x50#8, cycles := 8 } := by decide

theorem test_V59_sbc :
    cpuAfter (.sbc_A_d8 0xFF#8) (small { regs with a := 0x00#8, f := 0x10#8 } []) =
      some { regs with a := 0x00#8, f := 0xF0#8, cycles := 8 } := by decide

theorem test_V61_and :
    cpuAfter (.and_d8 0x0F#8) (small { regs with a := 0x5A#8, f := 0xD0#8 } []) =
      some { regs with a := 0x0A#8, f := 0x20#8, cycles := 8 } := by decide

theorem test_V64_xor :
    cpuAfter (.xor_d8 0x0F#8) (small { regs with a := 0xFF#8, f := 0xF0#8 } []) =
      some { regs with a := 0xF0#8, f := 0x00#8, cycles := 8 } := by decide

theorem test_V66_or :
    cpuAfter .or_atHL (small { regs with a := 0x5A#8, h := 0xC1#8, l := 0x00#8, f := 0xF0#8 } [(0xC100#16, 0x0F#8)]) =
      some { regs with a := 0x5F#8, h := 0xC1#8, l := 0x00#8, f := 0x00#8, cycles := 8 } := by decide

theorem test_V69_cp :
    cpuAfter (.cp_d8 0x2F#8) (small { regs with a := 0x3C#8, f := 0x00#8 } []) =
      some { regs with a := 0x3C#8, f := 0x60#8, cycles := 8 } := by decide

theorem test_V70_inc :
    cpuAfter .inc_B (small { regs with b := 0x0F#8, f := 0x10#8 } []) =
      some { regs with b := 0x10#8, f := 0x30#8, cycles := 4 } := by decide

theorem test_V76_dec_memory :
    cpuAfter .dec_atHL (small { regs with h := 0xC1#8, l := 0x00#8, f := 0x00#8 } [(0xC100#16, 0x01#8)]) =
        some { regs with h := 0xC1#8, l := 0x00#8, f := 0xC0#8, cycles := 12 } ∧
      byteAfter .dec_atHL (small { regs with h := 0xC1#8, l := 0x00#8, f := 0x00#8 } [(0xC100#16, 0x01#8)]) 0xC100#16 =
        some 0x00#8 := by decide

theorem test_V79_daa :
    cpuAfter .daa (small { regs with a := 0x00#8, f := 0x70#8 } []) =
      some { regs with a := 0x9A#8, f := 0x50#8, cycles := 4 } := by decide

theorem test_V81_daa :
    cpuAfter .daa (small { regs with a := 0x32#8, f := 0x30#8 } []) =
      some { regs with a := 0x98#8, f := 0x10#8, cycles := 4 } := by decide

theorem test_V84_ccf :
    cpuAfter .ccf (small { regs with f := 0xF0#8 } []) = some { regs with f := 0x80#8, cycles := 4 } := by decide

theorem test_V86_add_hl :
    cpuAfter .add_HL_BC (small { regs with h := 0x8A#8, l := 0x23#8, b := 0x06#8, c := 0x05#8, f := 0x80#8 } []) =
      some { regs with h := 0x90#8, l := 0x28#8, b := 0x06#8, c := 0x05#8, f := 0xA0#8, cycles := 8 } := by decide

theorem test_V92_dec_sp :
    cpuAfter .dec_SP (small { regs with sp := 0x0000#16 } []) =
      some { regs with sp := 0xFFFF#16, cycles := 8 } := by decide

theorem test_V93_add_sp :
    cpuAfter (.add_SP_e8 0xFE#8) (small { regs with sp := 0xFFF8#16, f := 0x80#8 } []) =
      some { regs with sp := 0xFFF6#16, f := 0x30#8, cycles := 16 } := by decide

theorem test_V97_rlca_clears_z :
    cpuAfter .rlca (small { regs with a := 0x00#8, f := 0xF0#8 } []) =
      some { regs with a := 0x00#8, f := 0x00#8, cycles := 4 } := by decide

theorem test_V108_sra :
    cpuAfter .sra_A (small { regs with a := 0x8A#8, f := 0xF0#8 } []) =
      some { regs with a := 0xC5#8, f := 0x00#8, cycles := 8 } := by decide

theorem test_V113_srl_memory :
    byteAfter .srl_atHL (small { regs with h := 0xC1#8, l := 0x00#8 } [(0xC100#16, 0xFF#8)]) 0xC100#16 =
      some 0x7F#8 := by decide

theorem test_V116_bit_memory :
    cpuAfter (.bit_0_atHL) (small { regs with h := 0xC1#8, l := 0x00#8, f := 0x00#8 } [(0xC100#16, 0x01#8)]) =
      some { regs with h := 0xC1#8, l := 0x00#8, f := 0x20#8, cycles := 12 } := by decide

theorem test_V117_res :
    cpuAfter .res_7_A (small { regs with a := 0x80#8, f := 0xF0#8 } []) =
      some { regs with a := 0x00#8, f := 0xF0#8, cycles := 8 } := by decide

theorem test_V127_jr_back :
    cpuAfter (.jr_e8 0x80#8) (small { regs with pc := 0x0012#16 } []) =
      some { regs with pc := 0xFF92#16, cycles := 12 } := by decide

theorem test_V132_call_not_taken :
    cpuAfter (.call_C_a16 0x0200#16) (small { regs with pc := 0x0153#16, f := 0x00#8 } []) =
      some { regs with pc := 0x0153#16, f := 0x00#8, cycles := 12 } := by decide

theorem test_V137_reti :
    cpuAfter .reti (small { regs with sp := 0xFFFC#16, eiPending := true } [(0xFFFC#16, 0x34#8), (0xFFFD#16, 0x02#8)]) =
      some { regs with sp := 0xFFFE#16, pc := 0x0234#16, ime := true, cycles := 16 } := by decide

theorem test_V138_rst :
    cpuAfter .rst_28 (small { regs with pc := 0x0301#16 } []) =
        some { regs with pc := 0x0028#16, sp := 0xFFFC#16, cycles := 16 } ∧
      byteAfter .rst_28 (small { regs with pc := 0x0301#16 } []) 0xFFFC#16 = some 0x01#8 := by decide

theorem test_V147_di :
    cpuAfter .di (small { regs with ime := true, eiPending := true } []) = some { regs with cycles := 4 } := by decide

theorem test_V153_undefined :
    cpuAfter (.undefined 0xDD#8) (small regs []) =
      some { regs with mode := .fatal, fatalOp := 0xDD#8, fatalAddr := 0xC000#16, cycles := 0 } := by decide

/-- The prefix alone runs the byte at `pc` (46_system.md R266, vector V152). -/
theorem test_V152_prefix :
    cpuAfter .prefixCB (small { regs with a := 0x12#8 } [(0xC001#16, 0x37#8)]) =
      some { regs with a := 0x21#8, f := 0x00#8, pc := 0xC002#16, cycles := 8 } := by decide

/-! The CPU step: dispatch (vectors V154, V155), waking (V142), the `EI` delay (V148). -/

theorem test_V154_dispatch :
    (dispatch { small { regs with pc := 0x1234#16, ime := true } [] with
      bus := { State.reset.bus with ie := 0x1F#8, ifReg := 0b10110#5 } }).cpu =
        { regs with pc := 0x0048#16, sp := 0xFFFC#16, cycles := 20 } ∧
      (dispatch { small { regs with pc := 0x1234#16, ime := true } [] with
        bus := { State.reset.bus with ie := 0x1F#8, ifReg := 0b10110#5 } }).bus.ifReg = 0b10100#5 := by decide

theorem test_V142_wake :
    (wake { small { regs with mode := .halted } [] with bus := { State.reset.bus with ie := 0x01#8 } }).cpu.mode =
      .running := by decide

theorem test_ei_delay :
    (armInterrupts true (small { regs with eiPending := true } [])).cpu.ime = true ∧
      (armInterrupts false (small { regs with eiPending := true } [])).cpu.ime = false := by decide

/-- The first step after reset runs a placed word, and the devices advance by its T-cycles (20_memory.md R90). -/
theorem test_step_runs_placed_word :
    (match step (State.reset.withFetchWord 8 0xC5) with
      | .next t => some (t.cpu.sp, t.cpu.pc, t.ppu.dot, t.timer.div16)
      | _ => none) = some (0xFFFC#16, 0x0101#16, 16, 0xABDC#16) := by decide +kernel

theorem test_decodeTableWord : decodeTableWord 16 0xCB37 = some .swap_A ∧ decodeTableWord 8 0xCB = some .prefixCB := by
  decide

/-! Devices, with the results of 95_test_vectors.md sections 3 to 7 and 61_timer.md R328. -/

theorem test_TM5_div_write :
    Timer.write ⟨0x0208#16, 0x10#8, 0x00#8, 0b100#3, 0#5⟩ 0 0x55#8 = ⟨0x0000#16, 0x11#8, 0x00#8, 0b100#3, 0#5⟩ := by
  decide

theorem test_TM12_overflow :
    Timer.cycle 17 ⟨0x000F#16, 0xFE#8, 0xFF#8, 0b101#3, 0#5⟩ = ⟨0x0020#16, 0xFF#8, 0xFF#8, 0b101#3, 0b00100#5⟩ := by
  decide +kernel

theorem test_JP5_lines :
    (Joypad.read ⟨0b00#2, { Buttons.none with left := true, a := true }, 0#5⟩) = 0xCC#8 := by decide

theorem test_PP1_oam_scan_ends : (Ppu.cycle 80 (Ppu.reset 0)).mode = .pixelTransfer := by decide +kernel

theorem test_BU1_stat : read8 State.reset 0xFF41#16 = 0x86#8 ∧ read8 State.reset 0xFF00#16 = 0xCF#8 := by decide

theorem test_BU1_sound : read8 State.reset 0xFF26#16 = 0xF0#8 ∧ read8 State.reset 0xFF12#16 = 0xF3#8 := by decide

theorem test_S6_mbc1_bank :
    Cart.romOffset { Cart.blank with romLen := 131072, mbc := Mbc.write (.mbc1 false 1#5 0#2 false) 0x2000 0x05#8 }
      0x4000 = 5 * 0x4000 := by decide

theorem test_mbc1_bank_zero_is_one : Mbc.write (.mbc1 false 3#5 0#2 false) 0x2000 0xE0#8 = .mbc1 false 1#5 0#2 false := by
  decide

theorem test_lfsr_reset_and_switch : (Apu.write (Apu.reset 0) 0x26 0x00#8).master = false := by decide

/-! Witnesses: for each statement with hypotheses, states and operands that meet them together, at the ends of each
clause's range. -/

/-- An image of header size whose type byte is `ty`. -/
def image (ty : Byte) : List Byte := List.replicate 0x147 0x00#8 ++ [ty, 0x00#8, 0x00#8]

theorem witness_ResetCpu :
    AfterReset State.reset ∧ (∃ t, State.powerOn (image 0x00#8) none = .next t ∧ AfterReset t) ∧
      (∃ t, State.powerOn (image 0x0F#8) none = .next t ∧ AfterReset t) ∧ AfterReset (resetRequest (small regs [])) :=
  ⟨.inl rfl, ⟨_, rfl, .inr (.inl ⟨image 0x00#8, none, rfl⟩)⟩, ⟨_, rfl, .inr (.inl ⟨image 0x0F#8, none, rfl⟩)⟩,
    .inr (.inr ⟨_, rfl⟩)⟩

theorem witness_ResetDevices : ∃ t, AfterReset t ∧ t.cart.mbc = .mbc3 false 1#7 0x00#8 0xFF#8 Rtc.zero Rtc.zero :=
  ⟨_, .inr (.inl ⟨image 0x0F#8, none, rfl⟩), rfl⟩

theorem witness_DecodeOfEncode : (Instr.jp_a16 0x0150#16).wellFormed = true ∧ Instr.jp_a16 0x0150#16 ≠ .prefixCB := by
  decide

theorem witness_EncodeOfDecode :
    decodeWindow 0xC3#8 0x50#8 0x01#8 = (.jp_a16 0x0150#16, 3) ∧ decodeWindow 0x3E#8 0xD3#8 0x00#8 = (.ld_A_d8 0xD3#8, 2) ∧
      decodeWindow 0xFD#8 0x00#8 0x00#8 = (.undefined 0xFD#8, 1) := by decide

/-- The reset state with bytes placed at the program counter `0x0100`. -/
def ready (bytes : List Byte) : State := pokeList bytes 0x0100#16 State.reset

theorem witness_StepRunsDecoded :
    ((deliver (ready [0x3E#8, 0xD3#8, 0x00#8])).cpu.mode = .running ∧
      (deliver (ready [0x3E#8, 0xD3#8, 0x00#8])).cpu.ime = false ∧
      decode [read8 (deliver (ready [0x3E#8, 0xD3#8, 0x00#8])) 0x0100#16,
        read8 (deliver (ready [0x3E#8, 0xD3#8, 0x00#8])) (0x0100#16 + 1#16),
        read8 (deliver (ready [0x3E#8, 0xD3#8, 0x00#8])) (0x0100#16 + 2#16)] = .ok (.ld_A_d8 0xD3#8, 2)) ∧
    ((ready []).bus.ie.extractLsb' 0 5 &&& (ready []).bus.ifReg = 0#5) := by decide

theorem witness_TickAggregates : ∃ (s d : State) (n : Nat), 0 < n ∧
    d = { s with timer := s.timer.cycle n, ppu := s.ppu.cycle n, apu := s.apu.cycle Config.audio s.sinkPending n } :=
  ⟨State.reset, _, 1, by decide, rfl⟩

/-- The reset state with `IME` set, every source enabled and the sources `r` requested. -/
def interrupted (r : BitVec 5) : State :=
  { small { Cpu.reset with ime := true } [] with bus := { State.reset.bus with ie := 0xFF#8, ifReg := r } }

theorem witness_InterruptDispatch_first :
    (deliver (interrupted 0b11111#5)).cpu.mode = .running ∧ (deliver (interrupted 0b11111#5)).cpu.ime = true ∧
      ((deliver (interrupted 0b11111#5)).bus.ie.getLsbD 0 && (deliver (interrupted 0b11111#5)).bus.ifReg.getLsbD 0) = true := by
  decide

theorem witness_InterruptDispatch_last :
    (deliver (interrupted 0b10000#5)).cpu.mode = .running ∧ (deliver (interrupted 0b10000#5)).cpu.ime = true ∧
      ((deliver (interrupted 0b10000#5)).bus.ie.getLsbD 4 && (deliver (interrupted 0b10000#5)).bus.ifReg.getLsbD 4) = true ∧
      (∀ j : Fin 4, ((deliver (interrupted 0b10000#5)).bus.ie.getLsbD j.val &&
        (deliver (interrupted 0b10000#5)).bus.ifReg.getLsbD j.val) = false) := by
  decide

/-- The reset state in a run state, with `IE` and `IF` given. -/
def suspended (m : CpuMode) (ie : Byte) (r : BitVec 5) : State :=
  { small { Cpu.reset with mode := m } [] with bus := { State.reset.bus with ie := ie, ifReg := r } }

theorem witness_SuspendedStep :
    ((deliver (suspended .halted 0x10#8 0b01111#5)).cpu.mode = .halted ∧
      (deliver (suspended .halted 0x10#8 0b01111#5)).bus.ie.extractLsb' 0 5 &&&
        (deliver (suspended .halted 0x10#8 0b01111#5)).bus.ifReg = 0#5) ∧
    (deliver (suspended .halted 0x10#8 0b10000#5)).bus.ie.extractLsb' 0 5 &&&
        (deliver (suspended .halted 0x10#8 0b10000#5)).bus.ifReg ≠ 0#5 ∧
    ((deliver (suspended .stopped 0x00#8 0b01111#5)).cpu.mode = .stopped ∧
      (deliver (suspended .stopped 0x00#8 0b01111#5)).bus.ifReg.getLsbD 4 = false) ∧
    (deliver (suspended .stopped 0x00#8 0b10000#5)).bus.ifReg.getLsbD 4 = true := by decide

theorem witness_FatalDecode_step :
    (deliver (ready [0xD3#8])).cpu.mode = .running ∧ (deliver (ready [0xD3#8])).cpu.ime = false ∧
      undefinedBytes.contains (read8 (deliver (ready [0xD3#8])) (deliver (ready [0xD3#8])).cpu.pc) = true := by decide

theorem witness_FatalDecode_terminal :
    (deliver (suspended .fatal 0x1F#8 0b11111#5)).cpu.mode = .fatal ∧ (suspended .fatal 0x1F#8 0b11111#5).inputs = [] := by
  decide

theorem witness_FatalDecode_reset :
    ∃ (s : State) (events : List HostEvent) (rest : List (List HostEvent)), s.inputs = events :: rest ∧
      HostEvent.reset ∈ events ∧ s.cpu.mode = .fatal :=
  ⟨{ suspended .fatal 0x00#8 0#5 with inputs := [[.reset]] }, [.reset], [], rfl, by decide, rfl⟩

theorem witness_LoadMovingHL : ∃ (s : State) (up down : Word),
    up = BitVec.ofNat 16 (s.cpu.atHL.toNat + 1) ∧ down = BitVec.ofNat 16 (s.cpu.atHL.toNat + 65535) ∧ up = 0x0000#16 ∧
      down = 0xFFFE#16 :=
  ⟨small { regs with h := 0xFF#8, l := 0xFF#8 } [], _, _, rfl, rfl, by decide, by decide⟩

theorem witness_StackPointerOffset : ∃ (s : State) (e : Byte) (v : Word) (f : Byte),
    v = BitVec.ofInt 16 ((s.cpu.sp.toNat : Int) + signed e) ∧
      f = flagByte false false (decide (0x0F < s.cpu.sp.toNat % 16 + e.toNat % 16))
        (decide (0xFF < s.cpu.sp.toNat % 256 + e.toNat)) ∧ v = 0xFFFF#16 ∧ f = 0x00#8 :=
  ⟨small { regs with sp := 0x0000#16 } [], 0xFF#8, _, _, rfl, rfl, by decide, by decide⟩

theorem witness_AddWithCarry : ∃ (form : AluForm) (s : State) (a v c : Nat),
    a = s.cpu.a.toNat ∧ v = (form.value s).toNat ∧ c = s.cpu.cf.toNat ∧ a + v + c = 0x100 :=
  ⟨.imm 0xFF#8, small { regs with a := 0x00#8, f := 0x10#8 } [], _, _, _, rfl, rfl, rfl, by decide⟩

theorem witness_SubtractAndCompare : ∃ (form : AluForm) (s : State) (a v c : Nat) (f : Byte),
    a = s.cpu.a.toNat ∧ v = (form.value s).toNat ∧ c = s.cpu.cf.toNat ∧
      f = flagByte (decide (a = v)) true (decide (a % 16 < v % 16)) (decide (a < v)) ∧ v + c = 0x100 :=
  ⟨.imm 0xFF#8, small { regs with a := 0x00#8, f := 0x10#8 } [], _, _, _, _, rfl, rfl, rfl, rfl, by decide⟩

theorem witness_Logic : ∃ (form : AluForm) (s : State) (v : Byte), v = form.value s ∧ v = 0x0F#8 :=
  ⟨.mem, small { regs with h := 0xC1#8, l := 0x00#8 } [(0xC100#16, 0x0F#8)], _, rfl, by decide⟩

theorem witness_IncrementDecrement : ∃ (r : Reg8) (s : State) (v w : Nat),
    v = (s.cpu.get8 r).toNat ∧ w = (read8 s s.cpu.atHL).toNat ∧ v = 0xFF ∧ w = 0x01 :=
  ⟨.a, small { regs with a := 0xFF#8, h := 0xC1#8, l := 0x00#8 } [(0xC100#16, 0x01#8)], _, _, rfl, rfl, by decide,
    by decide⟩

theorem witness_AccumulatorAdjust : ∃ (s : State) (r : Nat × Bool),
    r = daaResult s.cpu.a.toNat s.cpu.nf s.cpu.hf s.cpu.cf ∧ r = (0x98, true) :=
  ⟨small { regs with a := 0x32#8, f := 0x30#8 } [], _, rfl, by decide⟩

theorem witness_Arithmetic16 : ∃ (q : Rp) (s : State) (a v : Nat) (r : Word),
    a = s.cpu.atHL.toNat ∧ v = (s.cpu.getPair q.pair).toNat ∧ r = BitVec.ofNat 16 (a + v) ∧ r = 0x0000#16 :=
  ⟨.sp, small { regs with h := 0x00#8, l := 0x01#8, sp := 0xFFFF#16 } [], _, _, _, rfl, rfl, rfl, by decide⟩

theorem witness_RotateAccumulator :
    (∃ (s : State) (q : Nat × Nat), q = rotated .rlc s.cpu.a.toNat s.cpu.cf.toNat ∧ q = (0x0B, 1)) ∧
      (∃ (s : State) (q : Nat × Nat), q = rotated .rrc s.cpu.a.toNat s.cpu.cf.toNat ∧ q = (0xC2, 1)) ∧
      (∃ (s : State) (q : Nat × Nat), q = rotated .rl s.cpu.a.toNat s.cpu.cf.toNat ∧ q = (0x0B, 1)) ∧
      (∃ (s : State) (q : Nat × Nat), q = rotated .rr s.cpu.a.toNat s.cpu.cf.toNat ∧ q = (0xC2, 1)) :=
  ⟨⟨small { regs with a := 0x85#8, f := 0x10#8 } [], _, rfl, by decide⟩,
    ⟨small { regs with a := 0x85#8, f := 0x10#8 } [], _, rfl, by decide⟩,
    ⟨small { regs with a := 0x85#8, f := 0x10#8 } [], _, rfl, by decide⟩,
    ⟨small { regs with a := 0x85#8, f := 0x10#8 } [], _, rfl, by decide⟩⟩

theorem witness_RotateOperand : ∃ (op : RotOp) (r : Reg8) (s : State) (q p : Nat × Nat),
    q = rotated op (s.cpu.get8 r).toNat s.cpu.cf.toNat ∧ p = rotated op (read8 s s.cpu.atHL).toNat s.cpu.cf.toNat ∧
      q = (0x1F, 0) ∧ p = (0xF0, 0) :=
  ⟨.swap, .a, small { regs with a := 0xF1#8, h := 0xC1#8, l := 0x00#8 } [(0xC100#16, 0x0F#8)], _, _, rfl, rfl, by decide,
    by decide⟩

theorem witness_SingleBit_register :
    (∀ k : Fin 8, (0x00#8).getLsbD k.val = (decide (k.val ≠ Oct.n7.toNat) && (0x80#8).getLsbD k.val)) ∧
      (∀ k : Fin 8, (0x80#8).getLsbD k.val = (decide (k.val = Oct.n7.toNat) || (0x80#8).getLsbD k.val)) ∧
      (small { regs with a := 0x80#8 } []).cpu.get8 .a = 0x80#8 := by decide

theorem witness_SingleBit_memory :
    (∀ k : Fin 8, (0xFE#8).getLsbD k.val = (decide (k.val ≠ Oct.n0.toNat) && (0xFF#8).getLsbD k.val)) ∧
      (∀ k : Fin 8, (0xFF#8).getLsbD k.val = (decide (k.val = Oct.n0.toNat) || (0xFF#8).getLsbD k.val)) ∧
      read8 (small { regs with h := 0xC1#8, l := 0x00#8 } [(0xC100#16, 0xFF#8)]) 0xC100#16 = 0xFF#8 := by decide

theorem witness_Jumps : ∃ (s : State) (e : Byte) (rel : Word),
    rel = BitVec.ofInt 16 ((s.cpu.pc.toNat : Int) + signed e) ∧ rel = 0xFF92#16 :=
  ⟨small { regs with pc := 0x0012#16 } [], 0x80#8, _, rfl, by decide⟩

theorem witness_frames : ∃ (i : Instr) (s t : State) (op : Nat), i.wellFormed = true ∧ exec i s = .next t ∧
    op = opcodeOf i ∧ storeAddrs i s = [0xFFFC#16, 0xFFFD#16] :=
  ⟨.push_BC, small regs [], _, _, by decide, rfl, rfl, by decide +kernel⟩

theorem witness_frames_no_store : ∃ (i : Instr) (s t : State), i.wellFormed = true ∧ exec i s = .next t ∧
    storeAddrs i s = [] ∧ flagRow (opcodeOf i) (opcode2Of i s) = ⟨.keep, .keep, .keep, .keep⟩ :=
  ⟨.ld_B_C, small regs [], _, by decide, rfl, by decide +kernel, by decide +kernel⟩

theorem witness_FrameFlags_popAF : ∃ (i : Instr) (s t : State) (w : FlagRow), i.wellFormed = true ∧ exec i s = .next t ∧
    w = flagRow (opcodeOf i) (opcode2Of i s) ∧ opcodeOf i = 0xF1 :=
  ⟨.pop_AF, small regs [], _, _, by decide, rfl, rfl, by decide +kernel⟩

theorem witness_FrameMemory_untouched :
    (storeAddrs (.ld_atA16_SP 0xFFFF#16) (small regs [])).all (fun a => !touches a 0xC000#16) = true := by
  decide +kernel

theorem witness_PlainRam :
    [0xC000#16, 0xDFFF#16, 0xE000#16, 0xFDFF#16].all (fun a => decide (0xC000 ≤ a.toNat ∧ a.toNat < 0xFE00)) ∧
      [0xFF80#16, 0xFFFE#16].all (fun a => decide (0xFF80 ≤ a.toNat ∧ a.toNat ≤ 0xFFFE)) ∧
      (0xDDFF#16).toNat % 0x2000 = (0xFDFF#16).toNat % 0x2000 := by decide

theorem witness_GatedVideoMemory :
    [0x8000#16, 0x9FFF#16].all (fun a => decide (0x8000 ≤ a.toNat ∧ a.toNat ≤ 0x9FFF)) ∧
      [0xFE00#16, 0xFE9F#16].all (fun a => decide (0xFE00 ≤ a.toNat ∧ a.toNat ≤ 0xFE9F)) ∧
      [0xFEA0#16, 0xFEFF#16].all (fun a => decide (0xFEA0 ≤ a.toNat ∧ a.toNat ≤ 0xFEFF)) ∧
      State.reset.ppu.mode = .oamScan ∧
      ({ State.reset.ppu with mode := .pixelTransfer } : Ppu).mode = .pixelTransfer ∧
      ({ State.reset.ppu with mode := .hblank } : Ppu).mode ≠ .pixelTransfer ∧
      ({ State.reset.ppu with mode := .hblank } : Ppu).mode ≠ .oamScan := by decide

theorem witness_InterruptRegisters :
    within 0xFF08 0xFF0F 0xFF08#16 = true ∧ within 0xFF08 0xFF0F 0xFF0E#16 = true ∧
      within 0xFF4C 0xFF80 0xFF4C#16 = true ∧ within 0xFF4C 0xFF80 0xFF7F#16 = true ∧
      within 0xFF27 0xFF30 0xFF27#16 = true ∧ within 0xFF27 0xFF30 0xFF2F#16 = true := by decide

theorem witness_OamDma : ∃ (s t u : State) (v : Byte), t = write8 s 0xFF46#16 v ∧
    u = { s with bus := { s.bus with dmaReg := v } } ∧ v = 0xFE#8 :=
  ⟨State.reset, _, _, 0xFE#8, rfl, rfl, rfl⟩

theorem witness_TimerRate : ∃ (t : Timer) (n period count total : Nat),
    period = (if t.tac.toNat % 4 = 0 then 1024 else if t.tac.toNat % 4 = 1 then 16
      else if t.tac.toNat % 4 = 2 then 64 else 256) ∧
    count = (if 4 ≤ t.tac.toNat then (t.div16.toNat % period + n) / period else 0) ∧
    total = t.tima.toNat + count ∧ total = 256 :=
  ⟨⟨0x000F#16, 0xFF#8, 0xAB#8, 0b101#3, 0#5⟩, 1, _, _, _, rfl, rfl, rfl, by decide⟩

theorem reset_ppu_inv (epoch : Nat) : (Ppu.reset epoch).Inv := by
  refine ⟨Nat.zero_lt_succ _, Nat.zero_lt_succ _, ?_, rfl⟩
  simp [Ppu.ModeAgrees, Ppu.reset]

theorem witness_PpuFrame : ∃ (p q : Ppu) (n : Nat), p.Inv ∧ p.lcdc.getLsbD 7 = true ∧ q = p.cycle n ∧
    p.position < 456 * 144 ∧ 456 * 144 ≤ p.position + n :=
  ⟨Ppu.reset 0, _, 456 * 144, reset_ppu_inv 0, by decide, rfl, by decide, by decide⟩

theorem witness_LcdSwitch :
    (∃ (s : State) (v : Byte) (t : Ppu), t = (write8 s 0xFF40#16 v).ppu ∧ s.ppu.lcdc.getLsbD 7 = true ∧
      v.getLsbD 7 = false) ∧
    (∃ (s : State) (v : Byte) (t : Ppu), t = (write8 s 0xFF40#16 v).ppu ∧ s.ppu.lcdc.getLsbD 7 = false ∧
      v.getLsbD 7 = true) ∧
    (∃ (s : State) (v : Byte) (t : Ppu), t = (write8 s 0xFF40#16 v).ppu ∧ s.ppu.lcdc.getLsbD 7 = v.getLsbD 7) :=
  ⟨⟨State.reset, 0x11#8, _, rfl, by decide, by decide⟩,
    ⟨{ State.reset with ppu := { State.reset.ppu with lcdc := 0x11#8 } }, 0x91#8, _, rfl, by decide, by decide⟩,
    ⟨State.reset, 0x80#8, _, rfl, by decide⟩⟩

theorem witness_PpuRegisters : ∃ s : State, s.ppu.Inv ∧ s.ppu.lcdc.getLsbD 7 = false ∧ s.ppu.ly < 256 := by
  refine ⟨{ State.reset with ppu := { State.reset.ppu with lcdc := 0x11#8, mode := .hblank } },
    ⟨by decide, by decide, ?_, rfl⟩, by decide, by decide⟩
  simp [Ppu.ModeAgrees, State.reset, State.postBoot, Ppu.reset]

theorem witness_RenderLine : ∃ (p q : Ppu) (x : Nat), Rows.Canonical p.fb ∧ Rows.Canonical p.ci ∧
    p.lcdc.getLsbD 7 = true ∧ p.mode = .pixelTransfer ∧ p.dot = 251 ∧ x < 160 ∧ q = p.cycle 1 :=
  ⟨{ Ppu.reset 0 with ly := 143, mode := .pixelTransfer, dot := 251 }, _, 159, by simp [Rows.Canonical, Ppu.reset],
    by simp [Rows.Canonical, Ppu.reset], by decide, rfl, rfl, by decide, rfl⟩

theorem witness_ApuSwitch :
    (∃ (s : State) (a : Word) (v : Byte) (t : Apu), t = (write8 s a v).apu ∧ a = 0xFF26#16 ∧ s.apu.master = true ∧
      v.getLsbD 7 = false) ∧
    (∃ (s : State) (a : Word) (v : Byte) (t : Apu), t = (write8 s a v).apu ∧ s.apu.master = false ∧
      within 0xFF10 0xFF26 a = true ∧ a = 0xFF25#16) ∧
    within 0xFF30 0xFF40 0xFF30#16 = true ∧ within 0xFF30 0xFF40 0xFF3F#16 = true ∧
      within 0xFF10 0xFF26 0xFF10#16 = true :=
  ⟨⟨State.reset, 0xFF26#16, 0x7F#8, _, rfl, rfl, rfl, by decide⟩,
    ⟨{ State.reset with apu := { State.reset.apu with master := false } }, 0xFF25#16, 0x00#8, _, rfl, rfl, by decide, rfl⟩,
    by decide, by decide, by decide⟩

/-- An APU one T-cycle before a sequencer event of phase `phase`, its channels counting and its sweep about to overflow. -/
def sequencing (phase : BitVec 3) : Apu :=
  { Apu.reset 0 with
    fsAcc := 8191, fsPhase := phase,
    ch1 := { (Apu.reset 0).ch1 with lengthEn := true, length := 1 },
    ch4 := { (Apu.reset 0).ch4 with env := ⟨15#4, true, 1#3, 14, 1, true⟩ },
    sweep := ⟨1#3, false, 1#3, 2047#11, 1, true⟩ }

theorem witness_FrameSequencer :
    (sequencing 2#3).Inv ∧ (sequencing 7#3).Inv ∧ (sequencing 2#3).master = true ∧ 8192 ≤ (sequencing 2#3).fsAcc + 1 ∧
      (Apu.reset 0).Inv ∧ (Apu.reset 0).fsAcc + 24 < 8192 ∧
      ((sequencing 2#3).ch1.lengthEn = true ∧ 0 < (sequencing 2#3).ch1.length) ∧
      ((sequencing 7#3).fsPhase.toNat = 7 ∧ (sequencing 7#3).ch4.env.running = true ∧
        0 < (sequencing 7#3).ch4.env.period.toNat) ∧
      ((sequencing 2#3).sweep.timer ≤ 1 ∧ (sequencing 2#3).sweep.enabled = true ∧
        0 < (sequencing 2#3).sweep.period.toNat ∧ (sequencing 2#3).sweep.down = false ∧
        2047 < (sequencing 2#3).sweep.shadow.toNat +
          (sequencing 2#3).sweep.shadow.toNat / 2 ^ (sequencing 2#3).sweep.shift.toNat) := by
  unfold Apu.Inv
  decide

theorem witness_JoypadLines : ∃ (s t : State) (b : Buttons), t = applyEvent s (.buttons b) ∧
    read8 s 0xFF00#16 &&& ~~~read8 t 0xFF00#16 &&& 0x0F#8 ≠ 0#8 :=
  ⟨State.reset, _, { Buttons.none with a := true }, rfl, by decide⟩

theorem witness_cartridge_ranges :
    [0x0000#16, 0x1FFF#16].all (fun a => decide (a.toNat < 0x2000)) ∧
      [0x2000#16, 0x3FFF#16].all (fun a => decide (0x2000 ≤ a.toNat ∧ a.toNat < 0x4000)) ∧
      [0x4000#16, 0x5FFF#16].all (fun a => decide (0x4000 ≤ a.toNat ∧ a.toNat < 0x6000)) ∧
      [0x6000#16, 0x7FFF#16].all (fun a => decide (0x6000 ≤ a.toNat ∧ a.toNat < 0x8000)) ∧
      [0xA000#16, 0xBFFF#16].all (fun a => decide (0xA000 ≤ a.toNat ∧ a.toNat < 0xC000)) ∧
      (0x3EFF#16).toNat / 256 % 2 = 0 ∧ (0x3FFF#16).toNat / 256 % 2 = 1 := by
  decide +kernel

theorem witness_Mbc1 : ∃ s : State, s.cart.mbc = .mbc1 true 31#5 3#2 true ∧ 8192 < s.cart.ramLen :=
  ⟨{ State.reset with cart := { Cart.blank with ramLen := 32768, mbc := .mbc1 true 31#5 3#2 true } }, rfl, by decide⟩

theorem witness_Mbc2 : ∃ s : State, s.cart.mbc = .mbc2 true 15#4 :=
  ⟨{ State.reset with cart := { Cart.blank with ramLen := 512, mbc := .mbc2 true 15#4 } }, rfl⟩

theorem witness_Mbc3 : ∃ s : State, s.cart.mbc = .mbc3 true 127#7 0x0C#8 0x00#8 Rtc.zero Rtc.zero :=
  ⟨{ State.reset with cart := { Cart.blank with mbc := .mbc3 true 127#7 0x0C#8 0x00#8 Rtc.zero Rtc.zero } }, rfl⟩

theorem witness_FlagsStayClean : ∃ s t : State, s.cpu.FlagsClean ∧ step s = .next t :=
  let ⟨t, ht⟩ := step_next State.reset
  ⟨State.reset, t, rfl, ht⟩

theorem witness_invariants : ∃ s t : State, s.ppu.Inv ∧ s.MemoriesCanonical ∧ Rows.Canonical s.ppu.fb ∧
    Rows.Canonical s.ppu.ci ∧ s.cart.mbc.BankNonzero ∧ step s = .next t := by
  obtain ⟨t, ht⟩ := step_next State.reset
  refine ⟨State.reset, t, reset_ppu_inv 0, ?_, ?_, ?_, trivial, ht⟩ <;>
    simp [State.MemoriesCanonical, Rows.Canonical, State.reset, State.postBoot, Bus.reset, Ppu.reset, Apu.reset,
      Ram.fresh, Cart.reset, Cart.blank]

theorem witness_ApuStaysInRange : ∃ s t : State, s.apu.Inv ∧ s.apu.SilentWhenOff ∧ step s = .next t := by
  obtain ⟨t, ht⟩ := step_next State.reset
  refine ⟨State.reset, t, ?_, fun h => absurd h (by decide), ht⟩
  unfold Apu.Inv
  decide

theorem witness_SerialNeverRaised : ∃ s t : State, s.MasksInRange ∧ step s = .next t := by
  obtain ⟨t, ht⟩ := step_next State.reset
  refine ⟨State.reset, t, ?_, ht⟩
  unfold State.MasksInRange
  decide

end Sys2Proof.Tests
end

section
/-! The instructions by family, each with its meaning: every instruction but the byte 0xCB alone is one the decoder
answers, and the decoder's tables (30_encoding.md R133, R135) are by family. A proof about every instruction is then a
case for each family. -/

namespace Sys2Proof.Machine

open Sys2Proof

/-- The families of R133 and R135 with the state operation that is their meaning. -/
inductive Meaning : Instr → (State → State) → Prop where
  | ldRR (dst src : Reg8) : Meaning (Instr.ldRR dst src) (loadRegReg dst src)
  | ldRImm (dst : Reg8) (v : Byte) : Meaning (Instr.ldRImm dst v) (loadRegImm dst v)
  | ldRAtHL (dst : Reg8) : Meaning (Instr.ldRAtHL dst) (fun s => loadRegAt dst s.cpu.hl 8 s)
  | ldAtHLR (src : Reg8) : Meaning (Instr.ldAtHLR src) (fun s => storeAt s.cpu.hl (s.cpu.get8 src) 8 s)
  | ldAtHLImm (v : Byte) : Meaning (.ld_atHL_d8 v) (fun s => storeAt s.cpu.hl v 12 s)
  | ldAAtBC : Meaning .ld_A_atBC (fun s => loadRegAt .a (s.cpu.getPair .bc) 8 s)
  | ldAAtDE : Meaning .ld_A_atDE (fun s => loadRegAt .a (s.cpu.getPair .de) 8 s)
  | ldAtBCA : Meaning .ld_atBC_A (fun s => storeAt (s.cpu.getPair .bc) s.cpu.a 8 s)
  | ldAtDEA : Meaning .ld_atDE_A (fun s => storeAt (s.cpu.getPair .de) s.cpu.a 8 s)
  | ldAAtWord (a : Word) : Meaning (.ld_A_atA16 a) (loadRegAt .a a 16)
  | ldAtWordA (a : Word) : Meaning (.ld_atA16_A a) (fun s => storeAt a s.cpu.a 16 s)
  | ldhAAtByte (a : Byte) : Meaning (.ldh_A_atA8 a) (loadRegAt .a (highPage a) 12)
  | ldhAtByteA (a : Byte) : Meaning (.ldh_atA8_A a) (fun s => storeAt (highPage a) s.cpu.a 12 s)
  | ldAAtC : Meaning .ld_A_atC (fun s => loadRegAt .a (highPage s.cpu.c) 8 s)
  | ldAtCA : Meaning .ld_atC_A (fun s => storeAt (highPage s.cpu.c) s.cpu.a 8 s)
  | ldAtHLIA : Meaning .ld_atHLI_A (storeAThenMoveHL 1#16)
  | ldAtHLDA : Meaning .ld_atHLD_A (storeAThenMoveHL (-1#16))
  | ldAAtHLI : Meaning .ld_A_atHLI (loadAThenMoveHL 1#16)
  | ldAAtHLD : Meaning .ld_A_atHLD (loadAThenMoveHL (-1#16))
  | ldRpImm (rp : Rp) (v : Word) : Meaning (Instr.ldRpImm rp v) (loadPairImm rp.pair v)
  | ldAtWordSP (a : Word) : Meaning (.ld_atA16_SP a) (storeSp a)
  | ldSPHL : Meaning .ld_SP_HL copyHLToSp
  | ldHLSPOffset (e : Byte) : Meaning (.ld_HL_SPe8 e) (loadHLOffset e)
  | pushRp2 (rp : Rp2) : Meaning (Instr.pushRp2 rp) (pushPair rp.pair)
  | popRp2 (rp : Rp2) : Meaning (Instr.popRp2 rp) (popPair rp.pair)
  | aluR (op : AluOp) (r : Reg8) : Meaning (Instr.aluR op r) (fun s => aluOnA op (s.cpu.get8 r) 4 s)
  | aluAtHL (op : AluOp) : Meaning (Instr.aluAtHL op) (fun s => aluOnA op (read8 s s.cpu.hl) 8 s)
  | aluImm (op : AluOp) (v : Byte) : Meaning (Instr.aluImm op v) (aluOnA op v 8)
  | incR (r : Reg8) : Meaning (Instr.incR r) (incOperand (.reg r) 4)
  | incAtHL : Meaning .inc_atHL (incOperand .atHL 12)
  | decR (r : Reg8) : Meaning (Instr.decR r) (decOperand (.reg r) 4)
  | decAtHL : Meaning .dec_atHL (decOperand .atHL 12)
  | daa : Meaning .daa decimalAdjust
  | cpl : Meaning .cpl complementA
  | scf : Meaning .scf setCarry
  | ccf : Meaning .ccf complementCarry
  | addHLRp (rp : Rp) : Meaning (Instr.addHLRp rp) (addToHL rp.pair)
  | incRp (rp : Rp) : Meaning (Instr.incRp rp) (incPair rp.pair)
  | decRp (rp : Rp) : Meaning (Instr.decRp rp) (decPair rp.pair)
  | addSPOffset (e : Byte) : Meaning (.add_SP_e8 e) (addSpOffset e)
  | rlca : Meaning .rlca (rotateA .rlc)
  | rrca : Meaning .rrca (rotateA .rrc)
  | rla : Meaning .rla (rotateA .rl)
  | rra : Meaning .rra (rotateA .rr)
  | rot (op : RotOp) (o : Operand8) : Meaning (Instr.rot op o) (rotateOperand op o)
  | bit (b : Oct) (o : Operand8) : Meaning (Instr.bit b o) (testBit b.toNat o)
  | res (b : Oct) (o : Operand8) : Meaning (Instr.res b o) (clearBit b.toNat o)
  | set (b : Oct) (o : Operand8) : Meaning (Instr.set b o) (setBit b.toNat o)
  | jr (e : Byte) : Meaning (.jr_e8 e) (fun s => jump (relative s e) 12 s)
  | jrCc (cc : Cond) (e : Byte) : Meaning (Instr.jrCc cc e) (fun s => jumpIf cc (relative s e) 12 8 s)
  | jp (a : Word) : Meaning (.jp_a16 a) (jump a 16)
  | jpCc (cc : Cond) (a : Word) : Meaning (Instr.jpCc cc a) (jumpIf cc a 16 12)
  | jpHL : Meaning .jp_HL (fun s => jump s.cpu.hl 4 s)
  | call (a : Word) : Meaning (.call_a16 a) (call a 24)
  | callCc (cc : Cond) (a : Word) : Meaning (Instr.callCc cc a) (callIf cc a)
  | rst (y : Oct) : Meaning (Instr.rst y) (Machine.call (BitVec.ofNat 16 (8 * y.toNat)) 16)
  | ret : Meaning .ret (ret 16)
  | retCc (cc : Cond) : Meaning (Instr.retCc cc) (retIf cc)
  | reti : Meaning .reti returnFromInterrupt
  | nop : Meaning .nop idle
  | halt : Meaning .halt enterHalt
  | stop (pad : Byte) : Meaning (.stop pad) enterStop
  | di : Meaning .di disableInterrupts
  | ei : Meaning .ei enableInterrupts
  | undefined (op : Byte) : Meaning (.undefined op) (fun s => raiseFatal s op)

/-- A family's meaning is what `exec` answers. -/
theorem Meaning.exec_eq {i : Instr} {f : State → State} (h : Meaning i f) (s : State) : exec i s = .next (f s) := by
  cases h with
  | ldRR dst src => cases dst <;> cases src <;> rfl
  | aluR op r => cases op <;> cases r <;> rfl
  | ldRImm r | ldRAtHL r | ldAtHLR r | incR r | decR r => cases r <;> rfl
  | aluAtHL op | aluImm op => cases op <;> rfl
  | ldRpImm rp | pushRp2 rp | popRp2 rp | addHLRp rp | incRp rp | decRp rp => cases rp <;> rfl
  | rot op o => rcases o with ⟨⟨⟩⟩ | ⟨⟩ <;> cases op <;> rfl
  | bit b o | res b o | set b o => rcases o with ⟨⟨⟩⟩ | ⟨⟩ <;> cases b <;> rfl
  | jrCc cc | jpCc cc | callCc cc | retCc cc => cases cc <;> rfl
  | rst y => cases y <;> rfl
  | _ => rfl

/-! The decoder answers families only. -/

/-- Every instruction a form can give has a meaning in a family. -/
def FormHasMeaning : Form → Prop
  | .op i => ∃ f, Meaning i f
  | .byte g => ∀ v, ∃ f, Meaning (g v) f
  | .word g => ∀ v, ∃ f, Meaning (g v) f
  | .extended => True
  | .unassigned => True

/-- Rows `x = 0` of R133. -/
theorem primary0_hasMeaning (op : Byte) : FormHasMeaning (primary0 op) := by
  unfold primary0
  split
  · split
    · exact ⟨_, .nop⟩
    · exact fun a => ⟨_, .ldAtWordSP a⟩
    · exact fun pad => ⟨_, .stop pad⟩
    · exact fun e => ⟨_, .jr e⟩
    · exact fun e => ⟨_, .jrCc _ e⟩
  · split
    · exact ⟨_, .addHLRp _⟩
    · exact fun v => ⟨_, .ldRpImm _ v⟩
  · split
    · exact ⟨_, .ldAtBCA⟩
    · exact ⟨_, .ldAAtBC⟩
    · exact ⟨_, .ldAtDEA⟩
    · exact ⟨_, .ldAAtDE⟩
    · exact ⟨_, .ldAtHLIA⟩
    · exact ⟨_, .ldAAtHLI⟩
    · exact ⟨_, .ldAtHLDA⟩
    · exact ⟨_, .ldAAtHLD⟩
  · split
    · exact ⟨_, .decRp _⟩
    · exact ⟨_, .incRp _⟩
  · split
    · exact ⟨_, .incR _⟩
    · exact ⟨_, .incAtHL⟩
  · split
    · exact ⟨_, .decR _⟩
    · exact ⟨_, .decAtHL⟩
  · split
    · exact fun v => ⟨_, .ldRImm _ v⟩
    · exact fun v => ⟨_, .ldAtHLImm v⟩
  · split
    · exact ⟨_, .rlca⟩
    · exact ⟨_, .rrca⟩
    · exact ⟨_, .rla⟩
    · exact ⟨_, .rra⟩
    · exact ⟨_, .daa⟩
    · exact ⟨_, .cpl⟩
    · exact ⟨_, .scf⟩
    · exact ⟨_, .ccf⟩

/-- Row `x = 1` of R133. -/
theorem primary1_hasMeaning (op : Byte) : FormHasMeaning (primary1 op) := by
  unfold primary1
  split
  · exact ⟨_, .ldRR _ _⟩
  · exact ⟨_, .ldRAtHL _⟩
  · exact ⟨_, .ldAtHLR _⟩
  · exact ⟨_, .halt⟩

/-- Row `x = 2` of R133. -/
theorem primary2_hasMeaning (op : Byte) : FormHasMeaning (primary2 op) := by
  unfold primary2
  split
  · exact ⟨_, .aluR _ _⟩
  · exact ⟨_, .aluAtHL _⟩

/-- Rows `x = 3` of R133. -/
theorem primary3_hasMeaning (op : Byte) : FormHasMeaning (primary3 op) := by
  unfold primary3
  split
  · split
    · exact fun a => ⟨_, .ldhAtByteA a⟩
    · exact fun e => ⟨_, .addSPOffset e⟩
    · exact fun a => ⟨_, .ldhAAtByte a⟩
    · exact fun e => ⟨_, .ldHLSPOffset e⟩
    · exact ⟨_, .retCc _⟩
  · split
    · split
      · exact ⟨_, .ret⟩
      · exact ⟨_, .reti⟩
      · exact ⟨_, .jpHL⟩
      · exact ⟨_, .ldSPHL⟩
    · exact ⟨_, .popRp2 _⟩
  · split
    · exact ⟨_, .ldAtCA⟩
    · exact fun a => ⟨_, .ldAtWordA a⟩
    · exact ⟨_, .ldAAtC⟩
    · exact fun a => ⟨_, .ldAAtWord a⟩
    · exact fun a => ⟨_, .jpCc _ a⟩
  · split
    · exact fun a => ⟨_, .jp a⟩
    · trivial
    · exact ⟨_, .di⟩
    · exact ⟨_, .ei⟩
    · trivial
  · split
    · exact fun a => ⟨_, .callCc .nz a⟩
    · exact fun a => ⟨_, .callCc .z a⟩
    · exact fun a => ⟨_, .callCc .nc a⟩
    · exact fun a => ⟨_, .callCc .c a⟩
    · trivial
  · split
    · split
      · exact fun a => ⟨_, .call a⟩
      · trivial
    · exact ⟨_, .pushRp2 _⟩
  · exact fun v => ⟨_, .aluImm _ v⟩
  · exact ⟨_, .rst _⟩

/-- The primary table (R133). -/
theorem primary_hasMeaning (op : Byte) : FormHasMeaning (primary op) := by
  unfold primary
  split
  · exact primary0_hasMeaning op
  · exact primary1_hasMeaning op
  · exact primary2_hasMeaning op
  · exact primary3_hasMeaning op

/-- A 3-bit field is the number it stands for. -/
theorem octOf_toNat (code : BitVec 3) : (octOf code).toNat = code.toNat := by
  revert code
  decide

/-- The extended table (R135): the meaning of what it decodes is `extendedOp`. -/
theorem extended_meaning (op2 : Byte) : Meaning (extended op2) (extendedOp op2) := by
  unfold extended extendedOp
  rw [← octOf_toNat (fieldY op2)]
  generalize (fieldX op2).toNat = x
  match x with
  | 0 => exact .rot _ _
  | 1 => exact .bit _ _
  | 2 => exact .res _ _
  | _ + 3 => exact .set _ _

/-- Whatever bytes it reads, the decoder answers an instruction of a family. -/
theorem decodeWindow_hasMeaning (b0 b1 b2 : Byte) : ∃ f, Meaning (decodeWindow b0 b1 b2).1 f := by
  have h := primary_hasMeaning b0
  unfold decodeWindow
  split <;> rename_i hp <;> rw [hp] at h
  · exact h
  · exact h b1
  · exact h (b2 ++ b1)
  · exact ⟨_, extended_meaning b1⟩
  · exact ⟨_, .undefined b0⟩

/-! Every instruction but the byte 0xCB alone is what the decoder answers for its encoding. -/

/-- A 16-bit operand decodes from its two bytes (30_encoding.md R136). -/
theorem decodeWindow_word {op : Byte} {g : Word → Instr} (h : primary op = .word g) (v : Word) :
    (decodeWindow op (v.extractLsb' 0 8) (v.extractLsb' 8 8)).1 = g v := by
  unfold decodeWindow
  rw [h]
  exact congrArg g (append_parts (n := 8) (m := 8) v)

/-- An unassigned byte (R138) decodes to the instruction that carries it. -/
theorem decodeWindow_undefined {op : Byte} (h : (Instr.undefined op).wellFormed = true) :
    (decodeWindow op 0#8 0#8).1 = .undefined op := by
  revert op
  decide

/-- Decoding the bytes of an instruction gives it back. -/
theorem decodeWindow_encode {i : Instr} (hw : i.wellFormed = true) (hp : i ≠ .prefixCB) :
    (decodeWindow ((encode i).headD 0#8) ((encode i).getD 1 0#8) ((encode i).getD 2 0#8)).1 = i := by
  cases i with
  | prefixCB => exact absurd rfl hp
  | undefined op => exact decodeWindow_undefined hw
  | ld_BC_d16 v | ld_DE_d16 v | ld_HL_d16 v | ld_SP_d16 v | ld_atA16_SP v | ld_atA16_A v | ld_A_atA16 v
  | jp_a16 v | jp_NZ_a16 v | jp_Z_a16 v | jp_NC_a16 v | jp_C_a16 v
  | call_a16 v | call_NZ_a16 v | call_Z_a16 v | call_NC_a16 v | call_C_a16 v =>
    dsimp only [encode, opWord, List.headD, List.getD]
    exact decodeWindow_word rfl v
  | _ => dsimp only [encode, opExt, List.headD, List.getD]; rfl

/-- An instruction is the byte 0xCB alone or of a family. -/
theorem eq_prefixCB_or_meaning {i : Instr} (hw : i.wellFormed = true) : i = .prefixCB ∨ ∃ f, Meaning i f := by
  by_cases hp : i = .prefixCB
  · exact .inl hp
  · have h := decodeWindow_hasMeaning ((encode i).headD 0#8) ((encode i).getD 1 0#8) ((encode i).getD 2 0#8)
    rw [decodeWindow_encode hw hp] at h
    exact .inr h

/-- The bytes of what the extended table decodes (R135). -/
theorem encode_extended (op2 : Byte) : encode (extended op2) = [0xCB#8, op2] := by
  revert op2
  decide

end Sys2Proof.Machine
end

section
/-! What an instruction may write of the CPU: a rule for each register update, a frame for each shared operation, and
with them the frame of every family. -/

namespace Sys2Proof.Machine

open Sys2Proof

/-! Flags, row by row (10_state.md R26). -/

/-- The row of four dashes. -/
abbrev FlagRow.keepAll : FlagRow := ⟨.keep, .keep, .keep, .keep⟩

/-- The flags `g` became `g'` as the row says. -/
def FlagRow.Agrees (w : FlagRow) (g g' : Flags) : Prop :=
  w.z.agrees g.z g'.z ∧ w.n.agrees g.n g'.n ∧ w.h.agrees g.h g'.h ∧ w.c.agrees g.c g'.c

/-- The flags of `p` became those of `q` as the row says, four dashes leaving the whole of `F` unchanged. -/
def FlagRow.Treats (w : FlagRow) (p q : Cpu) : Prop :=
  w.Agrees p.flags q.flags ∧ (w = .keepAll → q.f = p.f)

/-- An unchanged `F` is a row of four dashes. -/
theorem FlagRow.treats_keepAll {p q : Cpu} (h : q.f = p.f) : FlagRow.keepAll.Treats p q := by
  have hg : q.flags = p.flags := congrArg Flags.ofByte h
  refine ⟨?_, fun _ => h⟩
  rw [hg]
  exact ⟨rfl, rfl, rfl, rfl⟩

theorem alu_agrees (op : AluOp) (a v : Byte) (g : Flags) : (aluFlagRow op.code).Agrees g (alu op a v g).2 := by
  cases op with
  | add | adc | sub | sbc | cp => exact ⟨trivial, rfl, trivial, trivial⟩
  | and | xor | or => exact ⟨trivial, rfl, rfl, rfl⟩

theorem incByte_agrees (v : Byte) (g : Flags) :
    (FlagRow.mk .result .zero .result .keep).Agrees g (incByte v g).2 := ⟨trivial, rfl, trivial, rfl⟩

theorem decByte_agrees (v : Byte) (g : Flags) :
    (FlagRow.mk .result .one .result .keep).Agrees g (decByte v g).2 := ⟨trivial, rfl, trivial, rfl⟩

theorem daaAdjust_agrees (a : Byte) (g : Flags) :
    (FlagRow.mk .result .keep .zero .result).Agrees g (daaAdjust a g).2 := ⟨trivial, rfl, rfl, trivial⟩

theorem addWords_agrees (a v : Word) (g : Flags) :
    (FlagRow.mk .keep .zero .result .result).Agrees g (addWords a v g).2 := ⟨rfl, rfl, trivial, trivial⟩

theorem spOffset_agrees (sp : Word) (e : Byte) (g : Flags) :
    (FlagRow.mk .zero .zero .result .result).Agrees g (spOffset sp e).2 := ⟨rfl, rfl, trivial, trivial⟩

theorem rotateAFlags_agrees (c : Bool) (g : Flags) :
    (FlagRow.mk .zero .zero .zero .result).Agrees g (rotateAFlags c) := ⟨rfl, rfl, rfl, trivial⟩

theorem bitFlags_agrees (b : Nat) (v : Byte) (g : Flags) :
    (FlagRow.mk .result .zero .one .keep).Agrees g (bitFlags b v g) := ⟨trivial, rfl, rfl, rfl⟩

theorem aluFlagRow_ne_keepAll (y : Nat) : aluFlagRow y ≠ .keepAll := by
  unfold aluFlagRow
  split_ifs <;> decide

/-- The row of a rotate, a shift or `SWAP` of the extended table (R26). -/
def rotFlagRow (op : RotOp) : FlagRow :=
  ⟨.result, .zero, .zero, if op = .swap then .zero else .result⟩

theorem rotate_agrees (op : RotOp) (v : Byte) (g : Flags) (r : Byte) :
    (rotFlagRow op).Agrees g (rotateFlags r (rotate op v g.c).2) := by
  cases op with
  | swap => exact ⟨trivial, rfl, rfl, rfl⟩
  | rlc | rrc | rl | rr | sla | sra | srl => exact ⟨trivial, rfl, rfl, trivial⟩

/-! What may be written. -/

/-- The parts of the CPU that may be written besides `pc` and `cycles`. -/
structure Writes where
  regs : List Reg8 := []
  sp : Bool := false
  flags : FlagRow := .keepAll
  ime : Bool := false
  eiPending : Bool := false
  mode : Bool := false
  fatalInfo : Bool := false

/-- The CPU `p` became `q`, and no more was written than `w` says. -/
structure Frame (w : Writes) (p q : Cpu) : Prop where
  regs : ∀ r, r ∉ w.regs → q.get8 r = p.get8 r
  sp : w.sp = false → q.sp = p.sp
  flags : w.flags.Treats p q
  ime : w.ime = false → q.ime = p.ime
  eiPending : w.eiPending = false → q.eiPending = p.eiPending
  mode : w.mode = false → q.mode = p.mode
  fatalInfo : w.fatalInfo = false → q.fatalOp = p.fatalOp ∧ q.fatalAddr = p.fatalAddr

/-! One rule for each update of the CPU. -/

/-- Nothing written. -/
theorem Frame.refl {w : Writes} (p : Cpu) (hf : w.flags = .keepAll := by rfl) : Frame w p p where
  regs _ _ := rfl
  sp _ := rfl
  flags := hf ▸ FlagRow.treats_keepAll rfl
  ime _ := rfl
  eiPending _ := rfl
  mode _ := rfl
  fatalInfo _ := ⟨rfl, rfl⟩

theorem Frame.spend {w : Writes} {p q : Cpu} (h : Frame w p q) (n : Nat) : Frame w p (q.spend n) where
  __ := h
  regs r hr := (Cpu.get8_spend q n r).trans (h.regs r hr)

/-- `pc` is in no frame. -/
theorem Frame.setPc {w : Writes} {p q : Cpu} (h : Frame w p q) (v : Word) : Frame w p { q with pc := v } where
  __ := h
  regs r hr := by rw [← h.regs r hr]; cases r <;> rfl

/-- The `pc` an instruction starts from is in no frame either. -/
theorem Frame.ofPc {w : Writes} {p q : Cpu} {v : Word} (h : Frame w { p with pc := v } q) : Frame w p q where
  __ := h
  regs r hr := by rw [h.regs r hr]; cases r <;> rfl

theorem Frame.setSp {w : Writes} {p q : Cpu} (h : Frame w p q) (v : Word) (hw : w.sp = true := by rfl) :
    Frame w p { q with sp := v } where
  __ := h
  regs r hr := by rw [← h.regs r hr]; cases r <;> rfl
  sp hs := absurd hs (by simp [hw])

theorem Frame.set8 {w : Writes} {p q : Cpu} (h : Frame w p q) {r : Reg8} (hr : r ∈ w.regs) (v : Byte) :
    Frame w p (q.set8 r v) where
  regs x hx := by
    have hne : x ≠ r := fun he => hx (he ▸ hr)
    rw [Cpu.get8_set8_ne q v hne, h.regs x hx]
  sp hs := (q.set8_sp r v).trans (h.sp hs)
  flags := by
    obtain ⟨ha, hk⟩ := h.flags
    unfold FlagRow.Treats Cpu.flags
    rw [Cpu.set8_f]
    exact ⟨ha, hk⟩
  ime hi := (q.set8_ime r v).trans (h.ime hi)
  eiPending he := (q.set8_eiPending r v).trans (h.eiPending he)
  mode hm := (q.set8_mode r v).trans (h.mode hm)
  fatalInfo hf := by simpa using h.fatalInfo hf

theorem Frame.setFlags {w : Writes} {p q : Cpu} (h : Frame w p q) {u : FlagRow} {g : Flags} (hu : u.Agrees p.flags g)
    (hk : u ≠ .keepAll) : Frame { w with flags := u } p (q.setFlags g) where
  __ := h
  regs r hr := (Cpu.get8_setFlags q g r).trans (h.regs r hr)
  flags := ⟨by rw [Cpu.flags_setFlags]; exact hu, fun he => absurd he hk⟩

/-- The 8-bit registers of a pair other than `AF`. -/
def rpRegs : Rp → List Reg8
  | .bc => [.b, .c]
  | .de => [.d, .e]
  | .hl => [.h, .l]
  | .sp => []

/-- Writing a pair writes its two registers one after the other (10_state.md R21). -/
theorem Frame.setPair {w : Writes} {p q : Cpu} (h : Frame w p q) (rp : Rp) (v : Word) (hr : rpRegs rp ⊆ w.regs)
    (hs : rp = .sp → w.sp = true) : Frame w p (q.setPair rp.pair v) := by
  cases rp with
  | bc => exact (h.set8 (r := .b) (hr (by simp [rpRegs])) (hiByte v)).set8 (r := .c) (hr (by simp [rpRegs])) (loByte v)
  | de => exact (h.set8 (r := .d) (hr (by simp [rpRegs])) (hiByte v)).set8 (r := .e) (hr (by simp [rpRegs])) (loByte v)
  | hl => exact (h.set8 (r := .h) (hr (by simp [rpRegs])) (hiByte v)).set8 (r := .l) (hr (by simp [rpRegs])) (loByte v)
  | sp => exact h.setSp v (hs rfl)

/-! The frame of each shared operation. -/

theorem loadRegReg_frame (dst src : Reg8) (s : State) : Frame { regs := [dst] } s.cpu (loadRegReg dst src s).cpu :=
  ((Frame.refl s.cpu).set8 (by simp) _).spend 4

theorem loadRegImm_frame (dst : Reg8) (v : Byte) (s : State) :
    Frame { regs := [dst] } s.cpu (loadRegImm dst v s).cpu :=
  ((Frame.refl s.cpu).set8 (by simp) v).spend 8

theorem loadRegAt_frame (dst : Reg8) (a : Word) (n : Nat) (s : State) :
    Frame { regs := [dst] } s.cpu (loadRegAt dst a n s).cpu :=
  ((Frame.refl s.cpu).set8 (by simp) _).spend n

/-- A byte store writes no register. -/
theorem Frame.write8 {w : Writes} {p : Cpu} {s : State} (h : Frame w p s.cpu) (a : Word) (v : Byte) :
    Frame w p (write8 s a v).cpu := by
  rw [write8_cpu]
  exact h

theorem storeAt_frame (a : Word) (v : Byte) (n : Nat) (s : State) : Frame {} s.cpu (storeAt a v n s).cpu :=
  ((Frame.refl s.cpu).write8 a v).spend n

theorem storeAThenMoveHL_frame (d : Word) (s : State) :
    Frame { regs := [.h, .l] } s.cpu (storeAThenMoveHL d s).cpu :=
  (((Frame.refl s.cpu).write8 _ _).setPair .hl _ (by simp [rpRegs]) nofun).spend 8

theorem loadAThenMoveHL_frame (d : Word) (s : State) :
    Frame { regs := [.a, .h, .l] } s.cpu (loadAThenMoveHL d s).cpu :=
  (((Frame.refl s.cpu).set8 (by simp) _).setPair .hl _ (by simp [rpRegs]) nofun).spend 8

theorem loadPairImm_frame (rp : Rp) (v : Word) (s : State) :
    Frame { regs := rpRegs rp, sp := rp == .sp } s.cpu (loadPairImm rp.pair v s).cpu :=
  ((Frame.refl s.cpu).setPair rp v (by simp) (by simp)).spend 12

theorem storeSp_frame (a : Word) (s : State) : Frame {} s.cpu (storeSp a s).cpu :=
  (((Frame.refl s.cpu).write8 _ _).write8 _ _).spend 20

theorem copyHLToSp_frame (s : State) : Frame { sp := true } s.cpu (copyHLToSp s).cpu :=
  ((Frame.refl s.cpu).setSp _).spend 8

theorem loadHLOffset_frame (e : Byte) (s : State) :
    Frame { regs := [.h, .l], flags := ⟨.zero, .zero, .result, .result⟩ } s.cpu (loadHLOffset e s).cpu :=
  (((Frame.refl (w := { regs := [.h, .l] }) s.cpu).setPair .hl _ (by simp [rpRegs]) nofun).setFlags
    (spOffset_agrees s.cpu.sp e _) (by decide)).spend 12

/-- A push writes `SP` alone. -/
theorem push16_frame (v : Word) (s : State) : Frame { sp := true } s.cpu (push16 s v).cpu := by
  rw [push16_cpu]
  exact (Frame.refl s.cpu).setSp _

theorem pushPair_frame (rp : Pair) (s : State) : Frame { sp := true } s.cpu (pushPair rp s).cpu :=
  (push16_frame _ s).spend 16

/-- A pop writes `SP` alone. -/
theorem afterPop_frame {w : Writes} (s : State) (hs : w.sp = true := by rfl) (hf : w.flags = .keepAll := by rfl) :
    Frame w s.cpu (afterPop s).cpu := (Frame.refl s.cpu hf).setSp _ hs

/-- What `POP rp2` writes. -/
def popWrites : Rp2 → Writes
  | .bc => { regs := [.b, .c], sp := true }
  | .de => { regs := [.d, .e], sp := true }
  | .hl => { regs := [.h, .l], sp := true }
  | .af => { regs := [.a], sp := true, flags := ⟨.result, .result, .result, .result⟩ }

theorem popPair_frame (rp : Rp2) (s : State) : Frame (popWrites rp) s.cpu (popPair rp.pair s).cpu := by
  cases rp with
  | bc => exact ((afterPop_frame s).setPair .bc _ (by simp [rpRegs, popWrites]) nofun).spend 12
  | de => exact ((afterPop_frame s).setPair .de _ (by simp [rpRegs, popWrites]) nofun).spend 12
  | hl => exact ((afterPop_frame s).setPair .hl _ (by simp [rpRegs, popWrites]) nofun).spend 12
  | af =>
    have h : Frame { regs := [.a], sp := true } s.cpu ((afterPop s).cpu.set8 .a (hiByte (popped s))) :=
      (afterPop_frame s).set8 (by simp) _
    exact {
      h with
      regs := fun r hr => by rw [← h.regs r hr]; cases r <;> rfl
      flags := ⟨⟨trivial, trivial, trivial, trivial⟩, nofun⟩ }

/-- `CP` alone leaves the accumulator (42_alu8.md R197). -/
def aluRegs (op : AluOp) : List Reg8 := if op = .cp then [] else [.a]

theorem aluOnA_frame (op : AluOp) (v : Byte) (n : Nat) (s : State) :
    Frame { regs := aluRegs op, flags := aluFlagRow op.code } s.cpu (aluOnA op v n s).cpu := by
  have hset : Frame { regs := aluRegs op } s.cpu (s.cpu.set8 .a (alu op s.cpu.a v s.cpu.flags).1) := by
    by_cases hop : op = .cp
    · subst hop
      exact Frame.refl s.cpu
    · exact (Frame.refl s.cpu).set8 (by simp [aluRegs, hop]) _
  exact (hset.setFlags (alu_agrees op _ v _) (aluFlagRow_ne_keepAll _)).spend n

/-- The 8-bit register of an operand, none for the byte at `HL`. -/
def operandRegs : Operand8 → List Reg8
  | .reg r => [r]
  | .atHL => []

theorem putOperand_frame (o : Operand8) (v : Byte) (s : State) :
    Frame { regs := operandRegs o } s.cpu (putOperand s o v).cpu := by
  cases o with
  | reg r => exact (Frame.refl s.cpu).set8 (by simp [operandRegs]) v
  | atHL => exact (Frame.refl s.cpu).write8 _ v

theorem incOperand_frame (o : Operand8) (n : Nat) (s : State) :
    Frame { regs := operandRegs o, flags := ⟨.result, .zero, .result, .keep⟩ } s.cpu (incOperand o n s).cpu :=
  ((putOperand_frame o _ s).setFlags (incByte_agrees _ _) (by decide)).spend n

theorem decOperand_frame (o : Operand8) (n : Nat) (s : State) :
    Frame { regs := operandRegs o, flags := ⟨.result, .one, .result, .keep⟩ } s.cpu (decOperand o n s).cpu :=
  ((putOperand_frame o _ s).setFlags (decByte_agrees _ _) (by decide)).spend n

theorem decimalAdjust_frame (s : State) :
    Frame { regs := [.a], flags := ⟨.result, .keep, .zero, .result⟩ } s.cpu (decimalAdjust s).cpu :=
  (((Frame.refl (w := { regs := [.a] }) s.cpu).set8 (r := .a) (by simp) _).setFlags
    (daaAdjust_agrees _ _) (by decide)).spend 4

theorem complementA_frame (s : State) :
    Frame { regs := [.a], flags := ⟨.keep, .one, .one, .keep⟩ } s.cpu (complementA s).cpu :=
  (((Frame.refl (w := { regs := [.a] }) s.cpu).set8 (r := .a) (by simp) _).setFlags
    (u := ⟨.keep, .one, .one, .keep⟩) (g := { s.cpu.flags with n := true, h := true }) ⟨rfl, rfl, rfl, rfl⟩
    (by decide)).spend 4

theorem setCarry_frame (s : State) : Frame { flags := ⟨.keep, .zero, .zero, .one⟩ } s.cpu (setCarry s).cpu :=
  ((Frame.refl (w := {}) s.cpu).setFlags (u := ⟨.keep, .zero, .zero, .one⟩)
    (g := { s.cpu.flags with n := false, h := false, c := true }) ⟨rfl, rfl, rfl, rfl⟩ (by decide)).spend 4

theorem complementCarry_frame (s : State) :
    Frame { flags := ⟨.keep, .zero, .zero, .result⟩ } s.cpu (complementCarry s).cpu :=
  ((Frame.refl (w := {}) s.cpu).setFlags (u := ⟨.keep, .zero, .zero, .result⟩)
    (g := { s.cpu.flags with n := false, h := false, c := !s.cpu.flags.c }) ⟨rfl, rfl, rfl, trivial⟩
    (by decide)).spend 4

theorem addToHL_frame (rp : Pair) (s : State) :
    Frame { regs := [.h, .l], flags := ⟨.keep, .zero, .result, .result⟩ } s.cpu (addToHL rp s).cpu :=
  (((Frame.refl (w := { regs := [.h, .l] }) s.cpu).setPair .hl _ (by simp [rpRegs]) nofun).setFlags
    (addWords_agrees _ _ _) (by decide)).spend 8

theorem incPair_frame (rp : Rp) (s : State) :
    Frame { regs := rpRegs rp, sp := rp == .sp } s.cpu (incPair rp.pair s).cpu :=
  ((Frame.refl s.cpu).setPair rp _ (by simp) (by simp)).spend 8

theorem decPair_frame (rp : Rp) (s : State) :
    Frame { regs := rpRegs rp, sp := rp == .sp } s.cpu (decPair rp.pair s).cpu :=
  ((Frame.refl s.cpu).setPair rp _ (by simp) (by simp)).spend 8

theorem addSpOffset_frame (e : Byte) (s : State) :
    Frame { sp := true, flags := ⟨.zero, .zero, .result, .result⟩ } s.cpu (addSpOffset e s).cpu :=
  (((Frame.refl (w := { sp := true }) s.cpu).setSp _).setFlags (spOffset_agrees s.cpu.sp e _) (by decide)).spend 16

theorem rotateA_frame (op : RotOp) (s : State) :
    Frame { regs := [.a], flags := ⟨.zero, .zero, .zero, .result⟩ } s.cpu (rotateA op s).cpu :=
  (((Frame.refl (w := { regs := [.a] }) s.cpu).set8 (r := .a) (by simp) _).setFlags
    (rotateAFlags_agrees _ _) (by decide)).spend 4

theorem rotateOperand_frame (op : RotOp) (o : Operand8) (s : State) :
    Frame { regs := operandRegs o, flags := rotFlagRow op } s.cpu (rotateOperand op o s).cpu :=
  ((putOperand_frame o _ s).setFlags (rotate_agrees op _ _ _) (by simp [rotFlagRow])).spend _

theorem testBit_frame (b : Nat) (o : Operand8) (s : State) :
    Frame { flags := ⟨.result, .zero, .one, .keep⟩ } s.cpu (testBit b o s).cpu :=
  ((Frame.refl (w := {}) s.cpu).setFlags (bitFlags_agrees b _ _) (by decide)).spend _

theorem clearBit_frame (b : Nat) (o : Operand8) (s : State) :
    Frame { regs := operandRegs o } s.cpu (clearBit b o s).cpu := (putOperand_frame o _ s).spend _

theorem setBit_frame (b : Nat) (o : Operand8) (s : State) :
    Frame { regs := operandRegs o } s.cpu (setBit b o s).cpu := (putOperand_frame o _ s).spend _

theorem jump_frame (a : Word) (n : Nat) (s : State) : Frame {} s.cpu (jump a n s).cpu :=
  ((Frame.refl s.cpu).setPc a).spend n

theorem jumpIf_frame (cc : Cond) (a : Word) (n m : Nat) (s : State) : Frame {} s.cpu (jumpIf cc a n m s).cpu := by
  unfold jumpIf
  split
  · exact jump_frame a n s
  · exact (Frame.refl s.cpu).spend m

theorem call_frame (a : Word) (n : Nat) (s : State) : Frame { sp := true } s.cpu (call a n s).cpu :=
  ((push16_frame _ s).setPc a).spend n

theorem callIf_frame (cc : Cond) (a : Word) (s : State) : Frame { sp := true } s.cpu (callIf cc a s).cpu := by
  unfold callIf
  split
  · exact call_frame a 24 s
  · exact (Frame.refl s.cpu).spend 12

theorem ret_frame (n : Nat) (s : State) : Frame { sp := true } s.cpu (ret n s).cpu :=
  ((afterPop_frame s).setPc _).spend n

theorem retIf_frame (cc : Cond) (s : State) : Frame { sp := true } s.cpu (retIf cc s).cpu := by
  unfold retIf
  split
  · exact ret_frame 20 s
  · exact (Frame.refl s.cpu).spend 8

/-- An update of `cycles`, the latches, the mode and `fatal_info`: the 8-bit registers, `SP` and `F` stay. -/
theorem Frame.setControl {w : Writes} {p q : Cpu} (h : Frame w p q) {ime ei : Bool} {m : CpuMode} {op : Byte} {a : Word}
    {n : Nat} (hi : w.ime = false → ime = q.ime) (he : w.eiPending = false → ei = q.eiPending)
    (hm : w.mode = false → m = q.mode) (hf : w.fatalInfo = false → op = q.fatalOp ∧ a = q.fatalAddr) :
    Frame w p { q with ime := ime, eiPending := ei, mode := m, fatalOp := op, fatalAddr := a, cycles := n } where
  regs r hr := by rw [← h.regs r hr]; cases r <;> rfl
  sp := h.sp
  flags := h.flags
  ime hw := (hi hw).trans (h.ime hw)
  eiPending hw := (he hw).trans (h.eiPending hw)
  mode hw := (hm hw).trans (h.mode hw)
  fatalInfo hw := ⟨(hf hw).1.trans (h.fatalInfo hw).1, (hf hw).2.trans (h.fatalInfo hw).2⟩

theorem returnFromInterrupt_frame (s : State) :
    Frame { sp := true, ime := true, eiPending := true } s.cpu (returnFromInterrupt s).cpu :=
  ((afterPop_frame (w := { sp := true, ime := true, eiPending := true }) s).setPc (popped s)).setControl
    nofun nofun (fun _ => rfl) (fun _ => ⟨rfl, rfl⟩)

theorem idle_frame (s : State) : Frame {} s.cpu (idle s).cpu := (Frame.refl s.cpu).spend 4

theorem enterHalt_frame (s : State) : Frame { mode := true } s.cpu (enterHalt s).cpu :=
  (Frame.refl s.cpu).setControl (fun _ => rfl) (fun _ => rfl) nofun (fun _ => ⟨rfl, rfl⟩)

theorem enterStop_frame (s : State) : Frame { mode := true } s.cpu (enterStop s).cpu :=
  (Frame.refl s.cpu).setControl (fun _ => rfl) (fun _ => rfl) nofun (fun _ => ⟨rfl, rfl⟩)

theorem disableInterrupts_frame (s : State) :
    Frame { ime := true, eiPending := true } s.cpu (disableInterrupts s).cpu :=
  (Frame.refl s.cpu).setControl nofun nofun (fun _ => rfl) (fun _ => ⟨rfl, rfl⟩)

theorem enableInterrupts_frame (s : State) : Frame { eiPending := true } s.cpu (enableInterrupts s).cpu :=
  (Frame.refl s.cpu).setControl (fun _ => rfl) nofun (fun _ => rfl) (fun _ => ⟨rfl, rfl⟩)

theorem raiseFatal_frame (op : Byte) (s : State) :
    Frame { mode := true, fatalInfo := true } s.cpu (raiseFatal s op).cpu :=
  (Frame.refl s.cpu).setControl (fun _ => rfl) (fun _ => rfl) nofun nofun

end Sys2Proof.Machine
end

section
/-! The frame the tables of the spec give an instruction, and that every instruction keeps within it. -/

namespace Sys2Proof.Machine

open Sys2Proof

/-- Whether an instruction is one of the eleven unassigned bytes. -/
def isUndefined : Instr → Bool
  | .undefined _ => true
  | _ => false

theorem isUndefined_eq_false {i : Instr} (h : ∀ b, i ≠ .undefined b) : isUndefined i = false := by
  unfold isUndefined
  split
  · exact absurd rfl (h _)
  · rfl

/-- What the tables let an instruction write (10_state.md R22, R26, R30 to R32; 30_encoding.md R133, R135). -/
def opcodeWrites (op op2 : Nat) (unassigned : Bool) : Writes where
  regs := writtenRegs op op2
  sp := writesSp op
  flags := flagRow op op2
  ime := op == 0xF3 || op == 0xD9
  eiPending := op == 0xF3 || op == 0xFB || op == 0xD9
  mode := unassigned || op == 0x76 || op == 0x10
  fatalInfo := unassigned

/-- The same for an instruction in the state after its fetch. -/
def tableWrites (i : Instr) (s : State) : Writes := opcodeWrites (opcodeOf i) (opcode2Of i s) (isUndefined i)

theorem Frame.cast {w u : Writes} {p q : Cpu} (h : Frame w p q) (hw : u = w) : Frame u p q := hw ▸ h

/-- A frame given by an opcode byte: for an instruction with an operand, the number at which the tables are evaluated. -/
theorem Frame.ofOpcode {w : Writes} {p q : Cpu} {i : Instr} {s : State} (h : Frame w p q) (op : Nat)
    (ho : opcodeOf i = op) (hw : opcodeWrites op (opcode2Of i s) (isUndefined i) = w) : Frame (tableWrites i s) p q :=
  h.cast (by rw [tableWrites, ho, hw])

/-- A frame given by an extended opcode byte. -/
theorem Frame.ofExtended {w : Writes} {p q : Cpu} {i : Instr} {s : State} (h : Frame w p q) (op2 : Nat)
    (hw : opcodeOf i = 0xCB ∧ opcode2Of i s = op2 ∧ opcodeWrites 0xCB op2 (isUndefined i) = w) :
    Frame (tableWrites i s) p q := by
  obtain ⟨ho, ho2, hw⟩ := hw
  exact h.ofOpcode 0xCB ho (by rw [ho2, hw])

/-- The unassigned bytes write the mode and `fatal_info` alone (46_system.md R268). -/
theorem tableWrites_undefined {op : Byte} (h : (Instr.undefined op).wellFormed = true) (s : State) :
    tableWrites (.undefined op) s = { mode := true, fatalInfo := true } := by
  have hop : op ∈ undefinedBytes := List.contains_iff_mem.mp h
  simp only [undefinedBytes, List.mem_cons, List.not_mem_nil, or_false] at hop
  obtain rfl | rfl | rfl | rfl | rfl | rfl | rfl | rfl | rfl | rfl | rfl := hop <;> rfl

/-- Every family keeps within its tables. -/
theorem Meaning.frame {i : Instr} {f : State → State} (h : Meaning i f) (hw : i.wellFormed = true) (s : State) :
    Frame (tableWrites i s) s.cpu (f s).cpu := by
  cases h with
  | ldRR dst src => exact (loadRegReg_frame dst src s).cast (by cases dst <;> cases src <;> rfl)
  | ldRImm dst v =>
    exact (loadRegImm_frame dst v s).ofOpcode (8 * dst.code + 6) (by cases dst <;> rfl) (by cases dst <;> rfl)
  | ldRAtHL dst => exact (loadRegAt_frame dst _ _ s).cast (by cases dst <;> rfl)
  | ldAtHLR src => exact (storeAt_frame _ _ _ s).cast (by cases src <;> rfl)
  | ldAAtBC | ldAAtDE | ldAAtC => exact (loadRegAt_frame .a _ _ s).cast rfl
  | ldAAtWord a => exact (loadRegAt_frame .a a _ s).ofOpcode 0xFA rfl rfl
  | ldhAAtByte a => exact (loadRegAt_frame .a _ _ s).ofOpcode 0xF0 rfl rfl
  | ldAtBCA | ldAtDEA | ldAtCA => exact (storeAt_frame _ _ _ s).cast rfl
  | ldAtHLImm v => exact (storeAt_frame _ v _ s).ofOpcode 0x36 rfl rfl
  | ldAtWordA a => exact (storeAt_frame a _ _ s).ofOpcode 0xEA rfl rfl
  | ldhAtByteA a => exact (storeAt_frame _ _ _ s).ofOpcode 0xE0 rfl rfl
  | ldAtHLIA | ldAtHLDA => exact (storeAThenMoveHL_frame _ s).cast rfl
  | ldAAtHLI | ldAAtHLD => exact (loadAThenMoveHL_frame _ s).cast rfl
  | ldRpImm rp v =>
    exact (loadPairImm_frame rp v s).ofOpcode (16 * rp.code + 1) (by cases rp <;> rfl) (by cases rp <;> rfl)
  | ldAtWordSP a => exact (storeSp_frame a s).ofOpcode 0x08 rfl rfl
  | ldSPHL => exact (copyHLToSp_frame s).cast rfl
  | ldHLSPOffset e => exact (loadHLOffset_frame e s).ofOpcode 0xF8 rfl rfl
  | pushRp2 rp => exact (pushPair_frame rp.pair s).cast (by cases rp <;> rfl)
  | popRp2 rp => exact (popPair_frame rp s).cast (by cases rp <;> rfl)
  | aluR op r => exact (aluOnA_frame op _ _ s).cast (by cases op <;> cases r <;> rfl)
  | aluAtHL op => exact (aluOnA_frame op _ _ s).cast (by cases op <;> rfl)
  | aluImm op v =>
    exact (aluOnA_frame op v _ s).ofOpcode (0xC6 + 8 * op.code) (by cases op <;> rfl) (by cases op <;> rfl)
  | incR r => exact (incOperand_frame (.reg r) _ s).cast (by cases r <;> rfl)
  | incAtHL => exact (incOperand_frame .atHL _ s).cast rfl
  | decR r => exact (decOperand_frame (.reg r) _ s).cast (by cases r <;> rfl)
  | decAtHL => exact (decOperand_frame .atHL _ s).cast rfl
  | daa => exact (decimalAdjust_frame s).cast rfl
  | cpl => exact (complementA_frame s).cast rfl
  | scf => exact (setCarry_frame s).cast rfl
  | ccf => exact (complementCarry_frame s).cast rfl
  | addHLRp rp => exact (addToHL_frame rp.pair s).cast (by cases rp <;> rfl)
  | incRp rp => exact (incPair_frame rp s).cast (by cases rp <;> rfl)
  | decRp rp => exact (decPair_frame rp s).cast (by cases rp <;> rfl)
  | addSPOffset e => exact (addSpOffset_frame e s).ofOpcode 0xE8 rfl rfl
  | rlca | rrca | rla | rra => exact (rotateA_frame _ s).cast rfl
  | rot op o =>
    exact (rotateOperand_frame op o s).ofExtended (8 * op.code + o.code)
      (by rcases o with ⟨⟨⟩⟩ | ⟨⟩ <;> cases op <;> exact ⟨rfl, rfl, rfl⟩)
  | bit b o =>
    exact (testBit_frame b.toNat o s).ofExtended (0x40 + 8 * b.toNat + o.code)
      (by rcases o with ⟨⟨⟩⟩ | ⟨⟩ <;> cases b <;> exact ⟨rfl, rfl, rfl⟩)
  | res b o =>
    exact (clearBit_frame b.toNat o s).ofExtended (0x80 + 8 * b.toNat + o.code)
      (by rcases o with ⟨⟨⟩⟩ | ⟨⟩ <;> cases b <;> exact ⟨rfl, rfl, rfl⟩)
  | set b o =>
    exact (setBit_frame b.toNat o s).ofExtended (0xC0 + 8 * b.toNat + o.code)
      (by rcases o with ⟨⟨⟩⟩ | ⟨⟩ <;> cases b <;> exact ⟨rfl, rfl, rfl⟩)
  | jr e => exact (jump_frame _ _ s).ofOpcode 0x18 rfl rfl
  | jrCc cc e =>
    exact (jumpIf_frame cc _ _ _ s).ofOpcode (0x20 + 8 * cc.code) (by cases cc <;> rfl) (by cases cc <;> rfl)
  | jp a => exact (jump_frame a _ s).ofOpcode 0xC3 rfl rfl
  | jpCc cc a =>
    exact (jumpIf_frame cc a _ _ s).ofOpcode (0xC2 + 8 * cc.code) (by cases cc <;> rfl) (by cases cc <;> rfl)
  | jpHL => exact (jump_frame _ _ s).cast rfl
  | call a => exact (call_frame a _ s).ofOpcode 0xCD rfl rfl
  | callCc cc a =>
    exact (callIf_frame cc a s).ofOpcode (0xC4 + 8 * cc.code) (by cases cc <;> rfl) (by cases cc <;> rfl)
  | rst y => exact (call_frame _ _ s).cast (by cases y <;> rfl)
  | ret => exact (ret_frame _ s).cast rfl
  | retCc cc => exact (retIf_frame cc s).cast (by cases cc <;> rfl)
  | reti => exact (returnFromInterrupt_frame s).cast rfl
  | nop => exact (idle_frame s).cast rfl
  | halt => exact (enterHalt_frame s).cast rfl
  | stop pad => exact (enterStop_frame s).ofOpcode 0x10 rfl rfl
  | di => exact (disableInterrupts_frame s).cast rfl
  | ei => exact (enableInterrupts_frame s).cast rfl
  | undefined op => exact (raiseFatal_frame op s).cast (tableWrites_undefined hw s)

/-! The byte 0xCB alone runs the extended instruction that the next byte selects (46_system.md R266). -/

theorem opcode2Of_extended (op2 : Byte) (s : State) : opcode2Of (extended op2) s = op2.toNat := by
  have henc := encode_extended op2
  unfold opcode2Of
  split
  · next h =>
    rw [h] at henc
    exact nomatch (show [0xCB#8] = [0xCB#8, op2] from henc)
  · rw [henc]
    rfl

theorem isUndefined_extended (op2 : Byte) : isUndefined (extended op2) = false := by
  revert op2
  decide

/-- The tables say the same of the byte 0xCB alone and of the extended instruction it runs. -/
theorem tableWrites_extended (s t : State) :
    tableWrites (extended (read8 s s.cpu.pc)) t = tableWrites .prefixCB s := by
  unfold tableWrites opcodeOf
  rw [encode_extended, opcode2Of_extended, isUndefined_extended]
  rfl

theorem wellFormed_extended (op2 : Byte) : (extended op2).wellFormed = true := by
  revert op2
  decide

theorem prefixed_frame (s : State) : Frame (tableWrites .prefixCB s) s.cpu (prefixed s).cpu :=
  (((extended_meaning (read8 s s.cpu.pc)).frame (wellFormed_extended _) (advance s 1)).cast
    (tableWrites_extended s _).symm).ofPc

/-- Every instruction keeps within its tables. -/
theorem exec_frame {i : Instr} {s t : State} (hw : i.wellFormed = true) (h : exec i s = .next t) :
    Frame (tableWrites i s) s.cpu t.cpu := by
  rcases eq_prefixCB_or_meaning hw with rfl | ⟨f, hf⟩
  · injection h with h
    exact h ▸ prefixed_frame s
  · rw [hf.exec_eq] at h
    injection h with h
    exact h ▸ hf.frame hw s

/-- Byte stores keep the host's side. -/
theorem afterStores_host (s : State) (ws : List (Word × Byte)) :
    (afterStores s ws).inputs = s.inputs ∧ (afterStores s ws).sinkPending = s.sinkPending :=
  afterStores_invariant (fun t => t.inputs = s.inputs ∧ t.sinkPending = s.sinkPending)
    (fun t a v h => by rw [write8_inputs, write8_sinkPending]; exact h) ⟨rfl, rfl⟩ ws

/-- No instruction reaches the host's side. -/
theorem exec_host {i : Instr} {s t : State} (h : exec i s = .next t) :
    t.inputs = s.inputs ∧ t.sinkPending = s.sinkPending := by
  obtain ⟨u, hu, ws, c, -, rfl, -, -⟩ := exec_effect i s
  rw [hu] at h
  injection h with h
  exact h ▸ afterStores_host s ws

/-- Settles O35: each part is a field of the instruction's frame, or the host's side. -/
theorem frameRegisters : Obligations.FrameRegisters := by
  unfold Obligations.FrameRegisters
  rintro i s t op hw h rfl
  have hf := exec_frame hw h
  refine ⟨hf.regs, hf.sp, fun h1 h2 => hf.ime ?_, fun h1 h2 h3 => hf.eiPending ?_, fun hu => ?_, exec_host h⟩
  · simp [tableWrites, opcodeWrites, h1, h2]
  · simp [tableWrites, opcodeWrites, h1, h2, h3]
  · have hd := isUndefined_eq_false hu
    obtain ⟨hop, haddr⟩ := hf.fatalInfo hd
    exact ⟨hop, haddr, fun h1 h2 => hf.mode (by simp [tableWrites, opcodeWrites, hd, h1, h2])⟩

/-! `POP AF` and interrupt dispatch. -/

/-- The byte 0xF1 is `POP AF` (R133). -/
theorem eq_popAF_of_opcodeOf {i : Instr} (hw : i.wellFormed = true) (h : opcodeOf i = 0xF1) : i = .pop_AF := by
  have hp : i ≠ .prefixCB := by
    rintro rfl
    exact absurd h (by decide)
  have hb : (encode i).headD 0#8 = 0xF1#8 := BitVec.eq_of_toNat_eq h
  rw [← decodeWindow_encode hw hp, hb]
  rfl

/-- `POP AF` loads `F` from the low byte popped, its low nibble cleared (41_load16.md R186). -/
theorem popPair_af_f (s : State) : (popPair .af s).cpu.f = read8 s s.cpu.sp &&& 0xF0#8 := by
  show loByte (popped s) &&& 0xF0#8 = _
  unfold popped read16
  rw [loByte_append]

/-- Masking the low nibble keeps the four flags (R24). -/
theorem ofByte_and_F0 (b : Byte) : Flags.ofByte (b &&& 0xF0#8) = Flags.ofByte b := by
  revert b
  decide

/-- Settles O36: the row is in the instruction's frame; `POP AF` and the dispatch by their `F`. -/
theorem frameFlags : Obligations.FrameFlags := by
  unfold Obligations.FrameFlags
  refine ⟨?_, ?_⟩
  · rintro i s t w hw h rfl
    obtain ⟨⟨hz, hn, hh, hc⟩, hk⟩ := (exec_frame hw h).flags
    refine ⟨hz, hn, hh, hc, hk, fun hop => ?_⟩
    obtain rfl := eq_popAF_of_opcodeOf hw hop
    injection h with h
    have hg : t.cpu.flags = Flags.ofByte (read8 s s.cpu.sp) := by
      rw [← h, Cpu.flags, popPair_af_f, ofByte_and_F0]
    exact ⟨congrArg Flags.z hg, congrArg Flags.n hg, congrArg Flags.h hg, congrArg Flags.c hg⟩
  · intro s i
    simp [takeInterrupt, clearRequest]

end Sys2Proof.Machine
end

section
/-! The reset states (10_state.md R40, R41) and the register pairs (R21). -/

namespace Sys2Proof.Machine

open Sys2Proof

/-- The post-boot state with the host's side and the batches already pushed (70_reset_and_hazards.md R460, R462). -/
def bootedWith (k : Cart) (epoch : Nat) (pushed : List (List (BitVec 32))) (inputs : List (List HostEvent))
    (sinkPending : Nat) : State :=
  { State.postBoot k epoch with
    apu := { Apu.reset epoch with pushed := pushed }
    inputs := inputs
    sinkPending := sinkPending }

/-- What power-on answers is a post-boot state. -/
theorem powerOn_eq_postBoot {image : List Byte} {save : Option (List Byte)} {t : State}
    (h : State.powerOn image save = .next t) : ∃ k : Cart, t = State.postBoot k 0 := by
  unfold State.powerOn at h
  split at h
  · exact nomatch h
  · split at h <;> injection h with h <;> exact ⟨_, h.symm⟩

/-- Every reset leaves a post-boot state, whatever the cartridge, the reset's number and the host's side. -/
theorem AfterReset.eq_bootedWith {t : State} (h : AfterReset t) :
    ∃ k epoch pushed inputs sinkPending, t = bootedWith k epoch pushed inputs sinkPending := by
  rcases h with rfl | ⟨image, save, h⟩ | ⟨s, rfl⟩
  · exact ⟨Cart.blank, 0, [], [], 0, rfl⟩
  · obtain ⟨k, rfl⟩ := powerOn_eq_postBoot h
    exact ⟨k, 0, [], [], 0, rfl⟩
  · exact ⟨s.cart, s.bus.wram.epoch + 1, s.apu.pushed, s.inputs, s.sinkPending, rfl⟩

/-- `IF` reads with its three unimplemented bits set (10_state.md R33). -/
theorem read8_intFlag (s : State) : read8 s 0xFF0F#16 = 0b111#3 ++ s.bus.ifReg := by
  have hr : route 0xFF0F#16 = .io 0x0F := by decide
  have hp : port 0x0F = .intFlag := by decide
  simp only [read8, hr, readPort, hp]

/-- Settles O1: a post-boot state has the CPU, `IF` and `IE` of R40. -/
theorem resetCpu : Obligations.ResetCpu := by
  unfold Obligations.ResetCpu
  intro t h
  obtain ⟨k, epoch, pushed, inputs, sinkPending, rfl⟩ := h.eq_bootedWith
  refine ⟨rfl, rfl, rfl, rfl, rfl, rfl, rfl, rfl, rfl, rfl, rfl, rfl, rfl, rfl, ?_, rfl⟩
  exact (read8_intFlag _).trans (show 0b111#3 ++ 0b00001#5 = 0xE1#8 from rfl)

/-- A line buffer with no line listed is all zero. -/
theorem pixel_replicate_zero (n x : Nat) : Row.pixel (List.replicate n 0#2) x = 0#2 := by
  induction n generalizing x with
  | zero => rfl
  | succ n ih =>
    cases x with
    | zero => rfl
    | succ x => exact ih x

/-- Settles O2: a post-boot state has the devices of R41. -/
theorem resetDevices : Obligations.ResetDevices := by
  unfold Obligations.ResetDevices
  intro t h
  obtain ⟨k, epoch, pushed, inputs, sinkPending, rfl⟩ := h.eq_bootedWith
  refine ⟨?_, ?_, ?_, ?_, ?_, ?_, ?_, ?_⟩
  · exact ⟨rfl, rfl, rfl, rfl⟩
  · exact ⟨rfl, rfl, rfl⟩
  · exact ⟨rfl, rfl, rfl, rfl, rfl, rfl, rfl, rfl, rfl, rfl, rfl, rfl, rfl, rfl, rfl⟩
  · intro x y _ _
    have hp : Row.pixel (Rows.row [] y) x = 0#2 := pixel_replicate_zero _ x
    exact ⟨congrArg Config.palette hp, hp⟩
  · exact ⟨rfl, rfl⟩
  · exact ⟨rfl, rfl, rfl, rfl, rfl, rfl, rfl, rfl, rfl, rfl, rfl, rfl, rfl, rfl, rfl⟩
  · rfl
  · obtain ⟨rom, romLen, ram, ramLen, mbc, dirty⟩ := k
    cases mbc with
    | none => trivial
    | mbc1 => exact ⟨rfl, rfl, rfl, rfl⟩
    | mbc2 => exact ⟨rfl, rfl⟩
    | mbc3 => exact ⟨rfl, rfl, rfl, rfl⟩

/-! Register pairs. -/

theorem highByte_eq_hiByte (v : Word) : highByte v = hiByte v := by
  apply BitVec.eq_of_toNat_eq
  simp [highByte, hiByte, Nat.shiftRight_eq_div_pow]

theorem lowByte_eq_loByte (v : Word) : lowByte v = loByte v := by
  apply BitVec.eq_of_toNat_eq
  simp [lowByte, loByte]

/-- Writing one 8-bit register changes that register alone. -/
theorem Cpu.get8_set8 (p : Cpu) (r q : Reg8) (x : Byte) : (p.set8 r x).get8 q = if q = r then x else p.get8 q := by
  split
  · next h => rw [h, Cpu.get8_set8_same]
  · next h => exact Cpu.get8_set8_ne p x h

/-- Settles O14: pair reads and writes by definition, a pair read back from its two bytes. -/
theorem registerPairs : Obligations.RegisterPairs := by
  unfold Obligations.RegisterPairs
  intro p v
  rw [highByte_eq_hiByte, lowByte_eq_loByte]
  refine ⟨⟨rfl, rfl, rfl, rfl⟩, rfl, rfl, rfl, rfl, ?_, ?_, ?_, p.get8_set8⟩
  · exact p.getPair_setPair_same v (by decide)
  · exact p.getPair_setPair_same v (by decide)
  · exact p.getPair_setPair_same v (by decide)

end Sys2Proof.Machine
end

section
/-! The bus by ranges (20_memory.md R63 to R75): which addresses each route serves, the plain and the gated memories, the
OAM DMA, the interrupt registers, the unmapped I/O addresses, and the end of a tick. -/

namespace Sys2Proof.Machine

open Sys2Proof

/-! The address decoder, both ways. -/

/-- The address `a` is in the range of the route, at the route's offset (R63). -/
def Route.Serves (a : Nat) : Route → Prop
  | .rom k => a < 0x8000 ∧ k = a
  | .vram k => 0x8000 ≤ a ∧ a < 0xA000 ∧ k = a - 0x8000
  | .ext k => 0xA000 ≤ a ∧ a < 0xC000 ∧ k = a
  | .wram k => 0xC000 ≤ a ∧ a < 0xFE00 ∧ k = a % 0x2000
  | .oam k => 0xFE00 ≤ a ∧ a < 0xFEA0 ∧ k = a - 0xFE00
  | .unusable => 0xFEA0 ≤ a ∧ a < 0xFF00
  | .io k => 0xFF00 ≤ a ∧ a < 0xFF80 ∧ k = a - 0xFF00
  | .hram k => 0xFF80 ≤ a ∧ a < 0xFFFF ∧ k = a - 0xFF80
  | .ie => 0xFFFF ≤ a

/-- The decoder routes an address within the range of the route it answers. -/
theorem route_serves (a : Word) : (route a).Serves a.toNat := by
  have h := a.isLt
  unfold route
  simp only
  repeat' split
  all_goals
    unfold Route.Serves
    omega

/-- The ranges of R63 are disjoint (R61): a route that serves an address is the decoder's answer. -/
theorem route_eq_of_serves {a : Word} {r : Route} (h : r.Serves a.toNat) : route a = r := by
  cases r with
  | wram k =>
    obtain ⟨hlo, hhi, rfl⟩ := h
    rcases Nat.lt_or_ge a.toNat 0xE000 with he | he
    · rw [route_wram hlo he]
      exact congrArg Route.wram (by omega)
    · rw [route_echo he hhi]
      exact congrArg Route.wram (by omega)
  | hram k =>
    dsimp only [Route.Serves] at h
    obtain ⟨hlo, hhi, hk⟩ := h
    rw [hk]
    exact route_hram hlo hhi
  | rom k | vram k | ext k | oam k | unusable | io k | ie =>
    dsimp only [Route.Serves] at h
    simp (disch := omega) only [route, if_pos, if_neg, if_true, h]

theorem route_eq_iff {a : Word} {r : Route} : route a = r ↔ r.Serves a.toNat :=
  ⟨fun h => h ▸ route_serves a, route_eq_of_serves⟩

/-- The routes that one address alone has: not work RAM, which the echo names too, nor the range after OAM. -/
def Route.OneName : Route → Prop
  | .wram _ | .unusable => False
  | _ => True

theorem eq_of_route_eq {a b : Word} {r : Route} (ha : route a = r) (hb : route b = r) (hn : r.OneName) : b = a := by
  have hsa := route_eq_iff.1 ha
  have hsb := route_eq_iff.1 hb
  apply BitVec.eq_of_toNat_eq
  cases r with
  | wram | unusable => exact hn.elim
  | rom | vram | ext | oam | io | hram | ie =>
    dsimp only [Route.Serves] at hsa hsb
    omega

/-! Reads and writes by route. -/

theorem read8_wram {s : State} {a : Word} {k : Nat} (h : route a = .wram k) :
    read8 s a = s.bus.wram.read .wram k := by simp only [read8, h]

theorem read8_hram {s : State} {a : Word} {k : Nat} (h : route a = .hram k) :
    read8 s a = s.bus.hram.read .hram k := by simp only [read8, h]

theorem read8_vram {s : State} {a : Word} {k : Nat} (h : route a = .vram k) : read8 s a = s.ppu.readVram k := by
  simp only [read8, h]

theorem write8_vram {s : State} {a : Word} {k : Nat} (h : route a = .vram k) (v : Byte) :
    write8 s a v = { s with ppu := s.ppu.writeVram k v } := by simp only [write8, h]

theorem read8_oam {s : State} {a : Word} {k : Nat} (h : route a = .oam k) : read8 s a = s.ppu.readOam k := by
  simp only [read8, h]

theorem write8_oam {s : State} {a : Word} {k : Nat} (h : route a = .oam k) (v : Byte) :
    write8 s a v = { s with ppu := s.ppu.writeOam k v } := by simp only [write8, h]

theorem read8_io {s : State} {a : Word} {k : Nat} (h : route a = .io k) : read8 s a = readPort s k := by
  simp only [read8, h]

theorem write8_io {s : State} {a : Word} {k : Nat} (h : route a = .io k) (v : Byte) :
    write8 s a v = writePort s k v := by simp only [write8, h]

/-! Work RAM, its echo and high RAM (R67, R68, R71). -/

/-- Settles O38: the two names of a work-RAM byte are the addresses that route to its offset. -/
theorem plainRam : Obligations.PlainRam := by
  unfold Obligations.PlainRam
  intro s a v
  refine ⟨fun ⟨hlo, hhi⟩ => ?_, fun ⟨hlo, hhi⟩ => ?_⟩
  · have hr : route a = .wram (a.toNat % 0x2000) := route_eq_iff.2 ⟨hlo, hhi, rfl⟩
    refine ⟨?_, read8_write8_wram_same hr hr v, fun b hb hb' he => ?_, fun b hb => ?_, ?_⟩
    · rw [read8_wram hr]
      congr 1
      split <;> omega
    · exact read8_write8_wram_same hr (route_eq_iff.2 ⟨hb, hb', he.symm⟩) v
    · refine read8_write8_wram_ne hr (fun h => hb ?_) v
      obtain ⟨hb1, hb2, hk⟩ := route_eq_iff.1 h
      exact ⟨hb1, hb2, hk.symm⟩
    · rw [write8_wram hr]
  · have hr : route a = .hram (a.toNat - 0xFF80) := route_hram hlo (by omega)
    exact ⟨read8_hram hr, read8_write8_hram_same hr v,
      fun b hb => read8_write8_hram_ne hr (fun h => hb (eq_of_route_eq hr h trivial)) v, by rw [write8_hram hr]⟩

/-! VRAM and OAM, gated by the PPU's mode (R65, R69). -/

theorem Ppu.vramOpen_iff {p : Ppu} : p.vramOpen = true ↔ p.mode ≠ .pixelTransfer := by
  simp [Ppu.vramOpen]

theorem Ppu.oamOpen_iff {p : Ppu} : p.oamOpen = true ↔ p.mode ≠ .pixelTransfer ∧ p.mode ≠ .oamScan := by
  simp [Ppu.oamOpen]

/-- What a read looks at in the PPU: a VRAM or OAM byte through its gate, or a register. -/
theorem read8_congr_ppu {s : State} {p : Ppu} {b : Word}
    (hv : ∀ k, route b = .vram k → p.readVram k = s.ppu.readVram k)
    (ho : ∀ k, route b = .oam k → p.readOam k = s.ppu.readOam k) (hp : ∀ k, p.read k = s.ppu.read k) :
    read8 { s with ppu := p } b = read8 s b := by
  cases hb : route b with
  | vram k => simp only [read8_vram hb, hv k hb]
  | oam k => simp only [read8_oam hb, ho k hb]
  | io k =>
    simp only [read8_io hb, readPort]
    cases port k with
    | video j => exact hp j
    | joypad | timer | intFlag | sound | dma | unmapped => rfl
  | rom | ext | wram | unusable | hram | ie => simp only [read8, hb]

/-- Only a read of a VRAM offset looks at VRAM. -/
theorem read8_congr_vram {s : State} {r : Ram} {b : Word}
    (h : ∀ k, route b = .vram k → r.read .vram k = s.ppu.vram.read .vram k) :
    read8 { s with ppu := { s.ppu with vram := r } } b = read8 s b :=
  read8_congr_ppu (fun k hk => congrArg (fun x => if s.ppu.vramOpen then x else 0xFF#8) (h k hk)) (fun _ _ => rfl)
    (fun _ => rfl)

/-- Only a read of an OAM offset looks at OAM. -/
theorem read8_congr_oam {s : State} {r : Ram} {b : Word}
    (h : ∀ k, route b = .oam k → r.read .oam k = s.ppu.oam.read .oam k) :
    read8 { s with ppu := { s.ppu with oam := r } } b = read8 s b :=
  read8_congr_ppu (fun _ _ => rfl) (fun k hk => congrArg (fun x => if s.ppu.oamOpen then x else 0xFF#8) (h k hk))
    (fun _ => rfl)

/-- The gate of VRAM closed (R65). -/
theorem vram_closed {s : State} {a : Word} {k : Nat} (hr : route a = .vram k) (hm : s.ppu.mode = .pixelTransfer)
    (v : Byte) : read8 s a = 0xFF#8 ∧ write8 s a v = s := by
  have hc : s.ppu.vramOpen = false := by simp [Ppu.vramOpen, hm]
  rw [read8_vram hr, write8_vram hr]
  simp [Ppu.readVram, Ppu.writeVram, hc]

section VramOpen
variable {s : State} {a : Word} {k : Nat} (hr : route a = .vram k) (hm : s.ppu.mode ≠ .pixelTransfer)
include hr hm

theorem read8_vram_open : read8 s a = s.ppu.vram.read .vram k :=
  (read8_vram hr).trans (if_pos (Ppu.vramOpen_iff.2 hm))

theorem write8_vram_open (v : Byte) :
    write8 s a v = { s with ppu := { s.ppu with vram := s.ppu.vram.write k v } } := by
  rw [write8_vram hr, Ppu.writeVram, if_pos (Ppu.vramOpen_iff.2 hm)]

theorem read8_write8_vram_same (v : Byte) : read8 (write8 s a v) a = v := by
  rw [write8_vram_open hr hm, read8_vram_open hr (by exact hm), Ram.read_write_same]

theorem read8_write8_vram_ne {b : Word} (hb : b ≠ a) (v : Byte) : read8 (write8 s a v) b = read8 s b := by
  rw [write8_vram_open hr hm]
  exact read8_congr_vram fun j hj => Ram.read_write_ne _ _ v fun e => hb (eq_of_route_eq hr (e ▸ hj) trivial)

end VramOpen

/-- The gate of OAM closed (R69). -/
theorem oam_closed {s : State} {a : Word} {k : Nat} (hr : route a = .oam k)
    (hm : s.ppu.mode = .pixelTransfer ∨ s.ppu.mode = .oamScan) (v : Byte) :
    read8 s a = 0xFF#8 ∧ write8 s a v = s := by
  have hc : s.ppu.oamOpen = false := by rcases hm with hm | hm <;> simp [Ppu.oamOpen, hm]
  rw [read8_oam hr, write8_oam hr]
  simp [Ppu.readOam, Ppu.writeOam, hc]

section OamOpen
variable {s : State} {a : Word} {k : Nat} (hr : route a = .oam k)
  (hm : s.ppu.mode ≠ .pixelTransfer ∧ s.ppu.mode ≠ .oamScan)
include hr hm

theorem read8_oam_open : read8 s a = s.ppu.oam.read .oam k :=
  (read8_oam hr).trans (if_pos (Ppu.oamOpen_iff.2 hm))

theorem write8_oam_open (v : Byte) :
    write8 s a v = { s with ppu := { s.ppu with oam := s.ppu.oam.write k v } } := by
  rw [write8_oam hr, Ppu.writeOam, if_pos (Ppu.oamOpen_iff.2 hm), Ppu.putOam]

theorem read8_write8_oam_same (v : Byte) : read8 (write8 s a v) a = v := by
  rw [write8_oam_open hr hm, read8_oam_open hr (by exact hm), Ram.read_write_same]

theorem read8_write8_oam_ne {b : Word} (hb : b ≠ a) (v : Byte) : read8 (write8 s a v) b = read8 s b := by
  rw [write8_oam_open hr hm]
  exact read8_congr_oam fun j hj => Ram.read_write_ne _ _ v fun e => hb (eq_of_route_eq hr (e ▸ hj) trivial)

end OamOpen

/-- The range after OAM (R69). -/
theorem unusable_absent {a : Word} (hr : route a = .unusable) (s : State) (v : Byte) :
    read8 s a = 0xFF#8 ∧ write8 s a v = s := by
  rw [read8, write8, hr]
  exact ⟨rfl, rfl⟩

/-- Settles O39: a closed gate answers for the byte, an open one is a plain byte store. -/
theorem gatedVideoMemory : Obligations.GatedVideoMemory := by
  unfold Obligations.GatedVideoMemory
  intro s a v
  refine ⟨fun ⟨hlo, hhi⟩ => ?_, fun ⟨hlo, hhi⟩ => ?_, fun ⟨hlo, hhi⟩ => ?_⟩
  · have hr : route a = .vram (a.toNat - 0x8000) := route_eq_iff.2 ⟨hlo, by omega, rfl⟩
    exact ⟨fun hm => vram_closed hr hm v, fun hm =>
      ⟨read8_vram_open hr hm, read8_write8_vram_same hr hm v, fun b hb => read8_write8_vram_ne hr hm hb v,
        by rw [write8_vram_open hr hm]⟩⟩
  · have hr : route a = .oam (a.toNat - 0xFE00) := route_eq_iff.2 ⟨hlo, by omega, rfl⟩
    refine ⟨fun hm => oam_closed hr hm v, fun hm hm' => ?_⟩
    have ho := And.intro hm hm'
    exact ⟨read8_oam_open hr ho, read8_write8_oam_same hr ho v, fun b hb => read8_write8_oam_ne hr ho hb v,
      by rw [write8_oam_open hr ho]⟩
  · exact unusable_absent (route_eq_iff.2 ⟨hlo, by omega⟩) s v

/-! The OAM DMA (R75). -/

/-- The source address of byte `k`. -/
theorem dmaSource_eq (v : Byte) (k : Nat) :
    (v ++ 0x00#8 : Word) + BitVec.ofNat 16 k = BitVec.ofNat 16 (256 * v.toNat + k) := by
  apply BitVec.eq_of_toNat_eq
  have hbase : (v ++ 0x00#8 : Word).toNat = 256 * v.toNat := by
    have happ : (v ++ 0x00#8 : Word).toNat = v.toNat <<< 8 ||| 0 := BitVec.toNat_append v 0x00#8
    rw [happ, Nat.or_zero, Nat.shiftLeft_eq, Nat.mul_comm]
  rw [BitVec.toNat_add, hbase, BitVec.toNat_ofNat, BitVec.toNat_ofNat]
  omega

/-- A source in OAM is the destination's own offset: a page's bytes are copied to the offsets they have in the page. -/
theorem dmaSource_oam {v : Byte} {j k : Nat} (hk : k < 160)
    (h : route ((v ++ 0x00#8 : Word) + BitVec.ofNat 16 k) = .oam j) : j = k := by
  rw [dmaSource_eq] at h
  obtain ⟨hlo, hhi, hj⟩ := route_eq_iff.1 h
  have hv := v.isLt
  rw [BitVec.toNat_ofNat] at hlo hhi hj
  omega

/-- The copy from offset `i` on leaves the bytes below it. -/
theorem dmaCopy_read_below (n : Nat) {i j : Nat} (hj : j < i) (base : Word) (s : State) :
    (dmaCopy n i base s).ppu.oam.read .oam j = s.ppu.oam.read .oam j := by
  induction n generalizing i s with
  | zero => rfl
  | succ n ih => exact (ih (by omega) _).trans (Ram.read_write_ne _ _ _ (by omega))

/-- The copy of bytes `i` to `i + n - 1` gives each destination byte what the bus reads at its source beforehand: no byte
stored earlier is a later byte's source. -/
theorem dmaCopy_read {n i j : Nat} (hi : i ≤ j) (hj : j < i + n) (hn : i + n ≤ 160) (v : Byte) (s : State) :
    (dmaCopy n i (v ++ 0x00#8) s).ppu.oam.read .oam j = read8 s ((v ++ 0x00#8) + BitVec.ofNat 16 j) := by
  induction n generalizing i s with
  | zero => omega
  | succ n ih =>
    rcases Nat.eq_or_lt_of_le hi with rfl | hlt
    · exact (dmaCopy_read_below n (Nat.lt_succ_self i) _ _).trans (Ram.read_write_same _ _ _ _)
    · refine (ih (by omega) (by omega) (by omega) _).trans (read8_congr_oam fun m hm => ?_)
      have hmj : m = j := dmaSource_oam (by omega) hm
      exact Ram.read_write_ne _ _ _ (by omega)

/-- A write to the DMA register starts the copy. -/
theorem write8_dma (s : State) (v : Byte) : write8 s 0xFF46#16 v = oamDma s v := by
  have hr : route 0xFF46#16 = .io 0x46 := by decide
  have hp : port 0x46 = .dma := by decide
  simp only [write8_io hr, writePort, hp]

/-- The DMA register reads back what was written (R75). -/
theorem read8_dma (s : State) : read8 s 0xFF46#16 = s.bus.dmaReg := by
  have hr : route 0xFF46#16 = .io 0x46 := by decide
  have hp : port 0x46 = .dma := by decide
  simp only [read8_io hr, readPort, hp]

/-- Settles O41: the copy touches OAM alone, and each of its reads is a read beforehand. -/
theorem oamDmaCopies : Obligations.OamDma := by
  unfold Obligations.OamDma
  rintro s v t u rfl rfl
  rw [write8_dma]
  obtain ⟨r, hr⟩ := oamDma_eq s v
  refine ⟨?_, fun k hk => ?_, ?_⟩
  · rw [read8_dma, hr]
  · rw [← dmaSource_eq]
    exact dmaCopy_read (Nat.zero_le k) (by omega) (by omega) v _
  · rw [hr]

/-! `IF` and `IE` (R33, R72). -/

theorem write8_intFlag (s : State) (v : Byte) :
    write8 s 0xFF0F#16 v = { s with bus := { s.bus with ifReg := v.extractLsb' 0 5 } } := by
  have hr : route 0xFF0F#16 = .io 0x0F := by decide
  have hp : port 0x0F = .intFlag := by decide
  simp only [write8_io hr, writePort, hp]

theorem route_FFFF : route 0xFFFF#16 = .ie := by decide

theorem read8_ie (s : State) : read8 s 0xFFFF#16 = s.bus.ie := by
  simp only [read8, route_FFFF]

theorem write8_ie (s : State) (v : Byte) : write8 s 0xFFFF#16 v = { s with bus := { s.bus with ie := v } } := by
  simp only [write8, route_FFFF]

/-- The three unimplemented bits of `IF` as a number. -/
theorem toNat_ones_append (x : BitVec 5) : (0b111#3 ++ x).toNat = 0xE0 + x.toNat := by
  revert x
  decide

theorem extractLsb_zero_five (v : Byte) : v.extractLsb' 0 5 = BitVec.ofNat 5 (v.toNat % 32) := by
  apply BitVec.eq_of_toNat_eq
  simp

/-! The addresses of the I/O page with no register (R70, R393). -/

/-- The low bytes of R70 and R393 that no register answers. -/
def UnmappedIo (k : Nat) : Prop :=
  k = 0x01 ∨ k = 0x02 ∨ k = 0x03 ∨ (0x08 ≤ k ∧ k < 0x0F) ∨ (0x4C ≤ k ∧ k < 0x80)

/-- The low bytes of the sound range that no register answers (R393). -/
def UnusedSound (k : Nat) : Prop := k = 0x15 ∨ k = 0x1F ∨ (0x27 ≤ k ∧ k < 0x30)

theorem port_unmapped {k : Nat} (h : UnmappedIo k) : port k = .unmapped := by
  unfold UnmappedIo at h
  simp (disch := omega) only [port, if_neg]

theorem port_unusedSound {k : Nat} (h : UnusedSound k) : port k = .sound k := by
  unfold UnusedSound at h
  simp (disch := omega) only [port, if_neg, if_pos]

/-- No sound register answers at an unused address (R393). -/
theorem Apu.read_unused (a : Apu) {k : Nat} (h : UnusedSound k) : a.read k = 0xFF#8 := by
  unfold UnusedSound at h
  unfold Apu.read
  rw [if_neg (by omega)]
  split
  any_goals omega
  rfl

theorem Apu.write_unused (a : Apu) {k : Nat} (h : UnusedSound k) (v : Byte) : a.write k v = a := by
  unfold UnusedSound at h
  have hon : a.writeOn k v = a := by
    unfold Apu.writeOn
    split
    any_goals omega
    rfl
  have hoff : a.writeLength k v = a := by
    unfold Apu.writeLength
    split
    any_goals omega
    rfl
  unfold Apu.write
  rw [if_neg (by omega), if_neg (by omega), hon, hoff, ite_self]

/-- An address with no register reads `0xFF` and ignores writes. -/
theorem io_absent {s : State} {a : Word} {k : Nat} (hr : route a = .io k) (h : UnmappedIo k ∨ UnusedSound k)
    (v : Byte) : read8 s a = 0xFF#8 ∧ write8 s a v = s := by
  rw [read8_io hr, write8_io hr, readPort, writePort]
  rcases h with h | h
  · rw [port_unmapped h]
    exact ⟨rfl, rfl⟩
  · rw [port_unusedSound h]
    exact ⟨s.apu.read_unused h, congrArg (fun x => { s with apu := x }) (s.apu.write_unused h v)⟩

/-- Settles O40: `IF` by its five bits, `IE` whole, and the I/O page's addresses with no register. -/
theorem interruptRegisters : Obligations.InterruptRegisters := by
  unfold Obligations.InterruptRegisters
  intro s a v
  refine ⟨?_, ?_, read8_ie s, write8_ie s v, fun h => ?_⟩
  · rw [read8_intFlag, toNat_ones_append]
  · rw [write8_intFlag, extractLsb_zero_five]
  · simp only [within, Bool.and_eq_true, decide_eq_true_eq, ← BitVec.toNat_inj, BitVec.toNat_ofNat] at h
    have hr : route a = .io (a.toNat - 0xFF00) := route_eq_iff.2 ⟨by omega, by omega, rfl⟩
    refine io_absent hr ?_ v
    unfold UnmappedIo UnusedSound
    omega

/-! The end of a tick (R91). -/

/-- Settles O10: some T-cycles elapse, so the devices run before the aggregation. -/
theorem tickAggregates : Obligations.TickAggregates := by
  unfold Obligations.TickAggregates
  rintro s d n hn rfl
  have h : busCycle n s = aggregate (devices n s) := by rw [busCycle, if_neg (Nat.ne_of_gt hn)]
  rw [h]
  exact ⟨rfl, rfl, rfl, rfl, rfl, rfl, rfl⟩
end Sys2Proof.Machine
end

section
/-! The cartridge (21_cartridge.md): what a reset request keeps (R120), the register fields of a written byte, the bus's
two cartridge ranges, one equation for each register range of each controller (R105, R110, R113), and what each address
of external RAM reaches (R107, R112, R115). -/

namespace Sys2Proof.Machine

open Sys2Proof

/-! A reset request (R120). -/

/-- Settles O3: the request boots the cartridge it finds, and booting changes the controller's registers alone. -/
theorem resetKeepsCartridge : Obligations.ResetKeepsCartridge := by
  unfold Obligations.ResetKeepsCartridge
  intro s
  have hk : (applyEvent s .reset).cart = { s.cart with mbc := s.cart.mbc.reset } := rfl
  rw [hk]
  refine ⟨rfl, rfl, rfl, rfl, rfl, ?_⟩
  cases s.cart.mbc with
  | none | mbc1 | mbc2 | mbc3 => rfl

/-! The fields of a written byte, as numbers. -/

theorem extractLsb_zero_eq_ofNat (n : Nat) (v : Byte) : v.extractLsb' 0 n = BitVec.ofNat n (v.toNat % 2 ^ n) := by
  apply BitVec.eq_of_toNat_eq
  simp

/-- The enable pattern. -/
theorem enables_eq_decide (v : Byte) : enables v = decide (v.toNat % 16 = 0xA) := by
  rw [enables, extractLsb_zero_eq_ofNat, Bool.eq_iff_iff, beq_iff_eq, decide_eq_true_eq, ← BitVec.toNat_inj,
    BitVec.toNat_ofNat, Nat.mod_mod]
  rfl

/-- A written bank number, its zero read as one. -/
theorem bankOrOne_extractLsb (n : Nat) (v : Byte) :
    bankOrOne (v.extractLsb' 0 n) = BitVec.ofNat n (if v.toNat % 2 ^ n = 0 then 1 else v.toNat % 2 ^ n) := by
  have hz : BitVec.ofNat n (v.toNat % 2 ^ n) = 0#n ↔ v.toNat % 2 ^ n = 0 := by
    rw [← BitVec.toNat_inj, BitVec.toNat_ofNat, Nat.mod_mod, BitVec.toNat_zero]
  simp only [bankOrOne, extractLsb_zero_eq_ofNat, hz]
  split <;> rfl

theorem toNat_and_low_nibble (v : Byte) : (v &&& 0x0F#8).toNat = v.toNat % 16 :=
  (BitVec.toNat_and v 0x0F#8).trans (Nat.and_two_pow_sub_one_eq_mod v.toNat 4)

theorem and_low_nibble_eq_ofNat (v : Byte) : v &&& 0x0F#8 = BitVec.ofNat 8 (v.toNat % 16) := by
  apply BitVec.eq_of_toNat_eq
  rw [toNat_and_low_nibble, BitVec.toNat_ofNat]
  omega

/-- A four-bit cell with its high nibble read as 1 (R112). -/
theorem toNat_high_ones_or_low_nibble (v : Byte) : (0xF0#8 ||| (v &&& 0x0F#8)).toNat = 0xF0 + v.toNat % 16 := by
  rw [BitVec.toNat_or, toNat_and_low_nibble]
  exact (Nat.shiftLeft_add_eq_or_of_lt (Nat.mod_lt v.toNat (by decide : 0 < 2 ^ 4)) 15).symm

/-! The bus's cartridge ranges (20_memory.md R64, R66). -/

section Rom
variable {s : State} {a : Word} (h : a.toNat < 0x8000)
include h

theorem read8_rom : read8 s a = s.cart.read a.toNat := by
  have hr : route a = .rom a.toNat := route_eq_iff.2 ⟨h, rfl⟩
  simp only [read8, hr]

theorem write8_rom (v : Byte) :
    write8 s a v = { s with cart := { s.cart with mbc := s.cart.mbc.write a.toNat v } } := by
  have hr : route a = .rom a.toNat := route_eq_iff.2 ⟨h, rfl⟩
  simp only [write8, hr, Cart.write]

/-- Where the controller's registers are `m`, a write leaves `m.write`. -/
theorem write8_rom_cart {m : Mbc} (hm : s.cart.mbc = m) (v : Byte) :
    (write8 s a v).cart = { s.cart with mbc := m.write a.toNat v } := by
  rw [write8_rom h, hm]

end Rom

/-- The fixed ROM bank (R103). -/
theorem read8_rom_fixed {a : Word} (h : a.toNat < 0x4000) (s : State) :
    read8 s a = s.cart.romByte (a.toNat % s.cart.romLen) := by
  rw [read8_rom (Nat.lt_trans h (by decide)), Cart.read, Cart.romOffset, if_pos h]

/-- The switchable window (R106, R111, R114). -/
theorem read8_rom_window {s : State} {a : Word} {m : Mbc} (h : 0x4000 ≤ a.toNat ∧ a.toNat < 0x8000)
    (hm : s.cart.mbc = m) :
    read8 s a = s.cart.romByte ((m.romBank * 0x4000 + (a.toNat - 0x4000)) % s.cart.romLen) := by
  obtain ⟨hlo, hhi⟩ := h
  rw [read8_rom hhi, Cart.read, Cart.romOffset, if_neg (Nat.not_lt.2 hlo), hm]

section Ext
variable {s : State} {a : Word} (h : 0xA000 ≤ a.toNat ∧ a.toNat < 0xC000)
include h

theorem route_ext : route a = .ext a.toNat := route_eq_iff.2 ⟨h.1, h.2, rfl⟩

theorem read8_ext : read8 s a = s.cart.readRam a.toNat := by
  simp only [read8, route_ext h]

theorem write8_ext (v : Byte) : write8 s a v = { s with cart := s.cart.writeRam a.toNat v } := by
  simp only [write8, route_ext h]

/-! External RAM by what the address reaches (R117, R119). -/

theorem ext_absent (ht : s.cart.extTarget a.toNat = .absent) (v : Byte) : read8 s a = 0xFF#8 ∧ write8 s a v = s := by
  rw [read8_ext h, write8_ext h, Cart.readRam, Cart.writeRam, ht]
  exact ⟨rfl, rfl⟩

theorem read8_ext_byte {o : Nat} (ht : s.cart.extTarget a.toNat = .byte o) :
    read8 s a = s.cart.ram.read .extRam o := by
  rw [read8_ext h, Cart.readRam, ht]

theorem write8_ext_byte {o : Nat} (ht : s.cart.extTarget a.toNat = .byte o) (v : Byte) :
    write8 s a v = { s with cart := { s.cart with ram := s.cart.ram.write o v, dirty := true } } := by
  rw [write8_ext h, Cart.writeRam, ht]

/-- A store leaves what the address reaches, so the byte reads back. -/
theorem read8_write8_ext_byte {o : Nat} (ht : s.cart.extTarget a.toNat = .byte o) (v : Byte) :
    read8 (write8 s a v) a = v := by
  rw [write8_ext_byte h ht, read8_ext_byte h (by exact ht), Ram.read_write_same]

theorem read8_ext_nibble {o : Nat} (ht : s.cart.extTarget a.toNat = .nibble o) :
    (read8 s a).toNat = 0xF0 + (s.cart.ram.read .extRam o).toNat % 16 := by
  rw [read8_ext h, Cart.readRam, ht]
  exact toNat_high_ones_or_low_nibble _

theorem write8_ext_nibble {o : Nat} (ht : s.cart.extTarget a.toNat = .nibble o) (v : Byte) :
    write8 s a v = { s with cart := { s.cart with
      ram := s.cart.ram.write o (BitVec.ofNat 8 (v.toNat % 16)), dirty := true } } := by
  rw [write8_ext h, Cart.writeRam, ht, ← and_low_nibble_eq_ofNat]

/-- A store leaves what the address reaches, so the four bits read back. -/
theorem read8_write8_ext_nibble {o : Nat} (ht : s.cart.extTarget a.toNat = .nibble o) (v : Byte) :
    (read8 (write8 s a v) a).toNat = 0xF0 + v.toNat % 16 := by
  rw [write8_ext_nibble h ht, read8_ext_nibble h (by exact ht), Ram.read_write_same, ← and_low_nibble_eq_ofNat,
    toNat_and_low_nibble, Nat.mod_mod]

theorem ext_clock {i : Nat} (ht : s.cart.extTarget a.toNat = .clock i) (v : Byte) :
    read8 s a = s.cart.mbc.latchedClock.get i ∧ (write8 s a v).cart.mbc = s.cart.mbc.setClock i v := by
  rw [read8_ext h, write8_ext h, Cart.readRam, Cart.writeRam, ht]
  exact ⟨rfl, rfl⟩

end Ext

/-! MBC1 (R105, R107). -/

section Mbc1
variable {en : Bool} {lo : BitVec 5} {hi : BitVec 2} {mode : Bool}

theorem Mbc.write_mbc1_enable {addr : Nat} (h : addr < 0x2000) (v : Byte) :
    (Mbc.mbc1 en lo hi mode).write addr v = .mbc1 (decide (v.toNat % 16 = 0xA)) lo hi mode := by
  simp (disch := omega) only [Mbc.write, if_pos, enables_eq_decide]

theorem Mbc.write_mbc1_bankLo {addr : Nat} (h : 0x2000 ≤ addr ∧ addr < 0x4000) (v : Byte) :
    (Mbc.mbc1 en lo hi mode).write addr v =
      .mbc1 en (BitVec.ofNat 5 (if v.toNat % 32 = 0 then 1 else v.toNat % 32)) hi mode := by
  simp (disch := omega) only [Mbc.write, if_neg, if_pos]
  exact congrArg (Mbc.mbc1 en · hi mode) (bankOrOne_extractLsb 5 v)

theorem Mbc.write_mbc1_bankHi {addr : Nat} (h : 0x4000 ≤ addr ∧ addr < 0x6000) (v : Byte) :
    (Mbc.mbc1 en lo hi mode).write addr v = .mbc1 en lo (BitVec.ofNat 2 (v.toNat % 4)) mode := by
  simp (disch := omega) only [Mbc.write, if_neg, if_pos]
  exact congrArg (Mbc.mbc1 en lo · mode) (extractLsb_zero_eq_ofNat 2 v)

theorem Mbc.write_mbc1_mode {addr : Nat} (h : 0x6000 ≤ addr) (v : Byte) :
    (Mbc.mbc1 en lo hi mode).write addr v = .mbc1 en lo hi (decide (v.toNat % 2 = 1)) := by
  simp (disch := omega) only [Mbc.write, if_neg, BitVec.getLsbD, Nat.testBit_zero]

variable {k : Cart} (hm : k.mbc = .mbc1 en lo hi mode)
include hm

theorem Cart.extTarget_mbc1_absent (h : en = false ∨ k.ramLen = 0) (addr : Nat) : k.extTarget addr = .absent := by
  rw [extTarget, hm]
  exact if_pos (by simpa using h)

theorem Cart.extTarget_mbc1_byte (he : en = true) (hl : 0 < k.ramLen) (addr : Nat) :
    k.extTarget addr =
      .byte (((if 8192 < k.ramLen ∧ mode = true then hi.toNat else 0) * 0x2000 + (addr - 0xA000)) % k.ramLen) := by
  rw [extTarget, hm]
  exact if_neg (by simp [he, Nat.ne_of_gt hl])

end Mbc1

/-- Settles O51: each clause is the equation of its register range or of what its RAM address reaches. -/
theorem mbc1 : Obligations.Mbc1 := by
  unfold Obligations.Mbc1
  intro s en lo hi mode a v hm
  refine ⟨fun ha => ?_, fun ha => ?_, fun ha => ?_, fun ha => ?_, fun ha => read8_rom_fixed ha s,
    fun ha => by rw [read8_rom_window ha hm, Mbc.romBank], fun ha => ⟨fun h => ?_, fun he hl => ?_⟩⟩
  · rw [write8_rom_cart (by omega) hm, Mbc.write_mbc1_enable ha]
  · rw [write8_rom_cart (by omega) hm, Mbc.write_mbc1_bankLo ha]
  · rw [write8_rom_cart (by omega) hm, Mbc.write_mbc1_bankHi ha]
  · rw [write8_rom_cart ha.2 hm, Mbc.write_mbc1_mode ha.1]
  · exact ext_absent ha (Cart.extTarget_mbc1_absent hm h _) v
  · intro o ho
    have ht := Cart.extTarget_mbc1_byte hm he hl a.toNat
    rw [← ho] at ht
    exact ⟨read8_ext_byte ha ht, read8_write8_ext_byte ha ht v, by rw [write8_ext_byte ha ht]⟩

/-! MBC2 (R110, R112). -/

section Mbc2
variable {en : Bool} {bank : BitVec 4}

theorem Mbc.write_mbc2_enable {addr : Nat} (h : addr < 0x4000 ∧ addr / 256 % 2 = 0) (v : Byte) :
    (Mbc.mbc2 en bank).write addr v = .mbc2 (decide (v.toNat % 16 = 0xA)) bank := by
  simp only [Mbc.write, if_pos h.1, if_pos h.2, enables_eq_decide]

theorem Mbc.write_mbc2_bank {addr : Nat} (h : addr < 0x4000 ∧ addr / 256 % 2 = 1) (v : Byte) :
    (Mbc.mbc2 en bank).write addr v =
      .mbc2 en (BitVec.ofNat 4 (if v.toNat % 16 = 0 then 1 else v.toNat % 16)) := by
  simp (disch := omega) only [Mbc.write, if_pos, if_neg]
  exact congrArg (Mbc.mbc2 en) (bankOrOne_extractLsb 4 v)

theorem Mbc.write_mbc2_ignored {addr : Nat} (h : 0x4000 ≤ addr) (v : Byte) :
    (Mbc.mbc2 en bank).write addr v = .mbc2 en bank := if_neg (Nat.not_lt.2 h)

theorem Cart.extTarget_mbc2 {k : Cart} (hm : k.mbc = .mbc2 en bank) (addr : Nat) :
    k.extTarget addr = if en then .nibble ((addr - 0xA000) % 512) else .absent := by
  rw [extTarget, hm]

end Mbc2

/-- Settles O52: each clause is the equation of its register or of the nibble its RAM address reaches. -/
theorem mbc2 : Obligations.Mbc2 := by
  unfold Obligations.Mbc2
  intro s en bank a v hm
  have ht := Cart.extTarget_mbc2 hm a.toNat
  refine ⟨fun ha => ?_, fun ha => ?_, fun ha => ⟨?_, by rw [read8_rom_window ha hm, Mbc.romBank]⟩,
    fun ha => ⟨fun he => ?_, fun he => ?_⟩⟩
  · rw [write8_rom_cart (by omega) hm, Mbc.write_mbc2_enable ha]
  · rw [write8_rom_cart (by omega) hm, Mbc.write_mbc2_bank ha]
  · rw [write8_rom ha.2, hm, Mbc.write_mbc2_ignored ha.1, ← hm]
  · exact ext_absent ha (ht.trans (by rw [he]; rfl)) v
  · have hn := ht.trans (if_pos he)
    exact ⟨read8_ext_nibble ha hn, read8_write8_ext_nibble ha hn v, by rw [write8_ext_nibble ha hn]⟩

/-! MBC3 (R113, R115). -/

section Mbc3
variable {en : Bool} {bank : BitVec 7} {sel prev : Byte} {rtc latched : Rtc}

theorem Mbc.write_mbc3_enable {addr : Nat} (h : addr < 0x2000) (v : Byte) :
    (Mbc.mbc3 en bank sel prev rtc latched).write addr v =
      .mbc3 (decide (v.toNat % 16 = 0xA)) bank sel prev rtc latched := by
  simp (disch := omega) only [Mbc.write, if_pos, enables_eq_decide]

theorem Mbc.write_mbc3_bank {addr : Nat} (h : 0x2000 ≤ addr ∧ addr < 0x4000) (v : Byte) :
    (Mbc.mbc3 en bank sel prev rtc latched).write addr v =
      .mbc3 en (BitVec.ofNat 7 (if v.toNat % 128 = 0 then 1 else v.toNat % 128)) sel prev rtc latched := by
  simp (disch := omega) only [Mbc.write, if_neg, if_pos]
  exact congrArg (Mbc.mbc3 en · sel prev rtc latched) (bankOrOne_extractLsb 7 v)

theorem Mbc.write_mbc3_sel {addr : Nat} (h : 0x4000 ≤ addr ∧ addr < 0x6000) (v : Byte) :
    (Mbc.mbc3 en bank sel prev rtc latched).write addr v = .mbc3 en bank v prev rtc latched := by
  simp (disch := omega) only [Mbc.write, if_neg, if_pos]

/-- The clock is latched on a write of 0, then 1. -/
theorem Mbc.write_mbc3_latch {addr : Nat} (h : 0x6000 ≤ addr) (v : Byte) :
    (Mbc.mbc3 en bank sel prev rtc latched).write addr v =
      .mbc3 en bank sel v rtc (if prev = 0x00#8 ∧ v = 0x01#8 then rtc else latched) := by
  simp (disch := omega) only [Mbc.write, if_neg]
  split <;> rfl

section ExtTarget
variable {k : Cart} (hm : k.mbc = .mbc3 en bank sel prev rtc latched)
include hm

theorem Cart.extTarget_mbc3_disabled (he : en = false) (addr : Nat) : k.extTarget addr = .absent := by
  rw [extTarget, hm, he]
  rfl

theorem Cart.extTarget_mbc3_byte (he : en = true) (hs : sel.toNat ≤ 3) (hl : 0 < k.ramLen) (addr : Nat) :
    k.extTarget addr = .byte ((sel.toNat * 0x2000 + (addr - 0xA000)) % k.ramLen) := by
  rw [extTarget, hm, he]
  exact (if_pos hs).trans (if_neg (Nat.ne_of_gt hl))

theorem Cart.extTarget_mbc3_clock (he : en = true) (hs : 8 ≤ sel.toNat ∧ sel.toNat ≤ 12) (addr : Nat) :
    k.extTarget addr = .clock (sel.toNat - 8) := by
  rw [extTarget, hm, he]
  exact (if_neg (show ¬sel.toNat ≤ 3 by omega)).trans (if_pos hs)

theorem Cart.extTarget_mbc3_absent
    (h : 12 < sel.toNat ∨ (3 < sel.toNat ∧ sel.toNat < 8) ∨ (sel.toNat ≤ 3 ∧ k.ramLen = 0)) (addr : Nat) :
    k.extTarget addr = .absent := by
  rw [extTarget, hm]
  rcases h with h | h | ⟨hs, hl⟩
  · simp (disch := omega) only [if_neg, ite_self]
  · simp (disch := omega) only [if_neg, ite_self]
  · simp only [if_pos hs, if_pos hl, ite_self]

end ExtTarget

/-- A selected clock register reads its latched copy and is written live. -/
theorem mbc3_clock {s : State} {a : Word} (hm : s.cart.mbc = .mbc3 true bank sel prev rtc latched)
    (ha : 0xA000 ≤ a.toNat ∧ a.toNat < 0xC000) (hs : 8 ≤ sel.toNat ∧ sel.toNat ≤ 12) (v : Byte) :
    read8 s a = latched.get (sel.toNat - 8) ∧
      (write8 s a v).cart.mbc = .mbc3 true bank sel prev (rtc.set (sel.toNat - 8) v) latched := by
  obtain ⟨hr, hw⟩ := ext_clock ha (Cart.extTarget_mbc3_clock hm rfl hs a.toNat) v
  rw [hr, hw, hm]
  exact ⟨rfl, rfl⟩

end Mbc3

/-- Settles O53: each clause is the equation of its register range or of what `sel` makes its RAM address reach; the
five clock registers are one argument. -/
theorem mbc3 : Obligations.Mbc3 := by
  unfold Obligations.Mbc3
  intro s en bank sel prev rtc latched a v hm
  refine ⟨fun ha => ?_, fun ha => ?_, fun ha => ?_, fun ha => ?_, fun ha => by rw [read8_rom_window ha hm, Mbc.romBank],
    fun ha => ⟨fun he => ext_absent ha (Cart.extTarget_mbc3_disabled hm he _) v, ?_⟩⟩
  · rw [write8_rom_cart (by omega) hm, Mbc.write_mbc3_enable ha]
  · rw [write8_rom_cart (by omega) hm, Mbc.write_mbc3_bank ha]
  · rw [write8_rom_cart (by omega) hm, Mbc.write_mbc3_sel ha]
  · rw [write8_rom_cart ha.2 hm, Mbc.write_mbc3_latch ha.1]
  · rintro rfl
    refine ⟨fun hs hl => ?_, ?_, ?_, ?_, ?_, ?_, fun h => ext_absent ha (Cart.extTarget_mbc3_absent hm h _) v⟩
    · intro o ho
      have ht := Cart.extTarget_mbc3_byte hm rfl hs hl a.toNat
      rw [← ho] at ht
      exact ⟨read8_ext_byte ha ht, by rw [write8_ext_byte ha ht]⟩
    all_goals
      rintro rfl
      exact mbc3_clock hm ha (by decide) v
end Sys2Proof.Machine
end

section
/-! Encoding by family (30_encoding.md R133, R135): the bytes of each family of instructions, the decoder's tables row
by row against them, and the extended table by its fields. -/

namespace Sys2Proof.Machine

open Sys2Proof

/-! The fields of an opcode byte (R130, R131). -/

theorem toNat_eq_fields (op : Byte) :
    op.toNat = 64 * (fieldX op).toNat + 8 * (fieldY op).toNat + (fieldZ op).toNat := by
  have h := op.isLt
  simp only [fieldX, fieldY, fieldZ, BitVec.extractLsb'_toNat, Nat.shiftRight_eq_div_pow]
  omega

theorem fieldY_eq_fieldPQ (op : Byte) : (fieldY op).toNat = 2 * (fieldP op).toNat + (fieldQ op).toNat := by
  revert op
  decide

theorem fieldY_of_fieldQ {op : Byte} (h : fieldQ op = true) : (fieldY op).toNat = 2 * (fieldP op).toNat + 1 :=
  (fieldY_eq_fieldPQ op).trans (by rw [h]; rfl)

theorem fieldY_of_not_fieldQ {op : Byte} (h : ¬fieldQ op = true) : (fieldY op).toNat = 2 * (fieldP op).toNat :=
  (fieldY_eq_fieldPQ op).trans (by rw [Bool.eq_false_iff.2 h]; rfl)

/-! The codes of R131: each table of the decoder is inverse to the numbering of its operands. -/

/-- The code of a `rp2` pair (R131). -/
def Rp2.code : Rp2 → Nat
  | .bc => 0
  | .de => 1
  | .hl => 2
  | .af => 3

theorem operand8Of_code (c : BitVec 3) : (operand8Of c).code = c.toNat := by
  revert c
  decide

/-- The code of a register operand. -/
theorem code_of_operand8Of {c : BitVec 3} {r : Reg8} (h : operand8Of c = .reg r) : r.code = c.toNat := by
  rw [← operand8Of_code, h, Operand8.code]

/-- The memory operand has code 6. -/
theorem eq_six_of_operand8Of {c : BitVec 3} (h : operand8Of c = .atHL) : c.toNat = 6 := by
  rw [← operand8Of_code, h, Operand8.code]

theorem rpOf_code (c : BitVec 2) : (rpOf c).code = c.toNat := by
  revert c
  decide

theorem rp2Of_code (c : BitVec 2) : Rp2.code (rp2Of c) = c.toNat := by
  revert c
  decide

theorem aluOf_code (c : BitVec 3) : (aluOf c).code = c.toNat := by
  revert c
  decide

/-- The condition is in the two low bits of field `y` (R132). -/
theorem condOf_code (y : BitVec 3) : (condOf (y.extractLsb' 0 2)).code = y.toNat % 4 := by
  revert y
  decide

/-! The bytes of each family. -/

/-- An instruction of the machine and its bytes. -/
structure Encodes (i : Instr) (bytes : List Byte) : Prop where
  wellFormed : i.wellFormed = true
  bytes_eq : encode i = bytes

/-- An opcode byte given by its number. -/
theorem Encodes.of_opcode {i : Instr} {op : Byte} {c : Nat} {rest : List Byte}
    (h : Encodes i (BitVec.ofNat 8 c :: rest)) (hc : op.toNat = c) : Encodes i (op :: rest) := by
  rwa [← hc, BitVec.ofNat_toNat, BitVec.setWidth_eq] at h

theorem encodes_ldRR (r q : Reg8) : Encodes (Instr.ldRR r q) [BitVec.ofNat 8 (0x40 + 8 * r.code + q.code)] := by
  cases r <;> cases q <;> exact ⟨rfl, rfl⟩

theorem encodes_ldRImm (r : Reg8) (v : Byte) : Encodes (Instr.ldRImm r v) [BitVec.ofNat 8 (0x06 + 8 * r.code), v] := by
  cases r <;> exact ⟨rfl, rfl⟩

theorem encodes_ldRAtHL (r : Reg8) : Encodes (Instr.ldRAtHL r) [BitVec.ofNat 8 (0x46 + 8 * r.code)] := by
  cases r <;> exact ⟨rfl, rfl⟩

theorem encodes_ldAtHLR (r : Reg8) : Encodes (Instr.ldAtHLR r) [BitVec.ofNat 8 (0x70 + r.code)] := by
  cases r <;> exact ⟨rfl, rfl⟩

theorem encodes_ldRpImm (q : Rp) (v : Word) :
    Encodes (Instr.ldRpImm q v) (opWord (BitVec.ofNat 8 (0x01 + 16 * q.code)) v) := by
  cases q <;> exact ⟨rfl, rfl⟩

theorem encodes_pushRp2 (q : Rp2) : Encodes (Instr.pushRp2 q) [BitVec.ofNat 8 (0xC5 + 16 * Rp2.code q)] := by
  cases q <;> exact ⟨rfl, rfl⟩

theorem encodes_popRp2 (q : Rp2) : Encodes (Instr.popRp2 q) [BitVec.ofNat 8 (0xC1 + 16 * Rp2.code q)] := by
  cases q <;> exact ⟨rfl, rfl⟩

/-- `alu[y]` in its three forms (R133). -/
theorem encodes_alu (op : AluOp) (form : AluForm) : Encodes (form.instr op) (form.bytes op) := by
  cases form with
  | reg r => cases op <;> cases r <;> exact ⟨rfl, rfl⟩
  | mem | imm v => cases op <;> exact ⟨rfl, rfl⟩

theorem encodes_incR (r : Reg8) : Encodes (Instr.incR r) [BitVec.ofNat 8 (0x04 + 8 * r.code)] := by
  cases r <;> exact ⟨rfl, rfl⟩

theorem encodes_decR (r : Reg8) : Encodes (Instr.decR r) [BitVec.ofNat 8 (0x05 + 8 * r.code)] := by
  cases r <;> exact ⟨rfl, rfl⟩

theorem encodes_addHLRp (q : Rp) : Encodes (Instr.addHLRp q) [BitVec.ofNat 8 (0x09 + 16 * q.code)] := by
  cases q <;> exact ⟨rfl, rfl⟩

theorem encodes_incRp (q : Rp) : Encodes (Instr.incRp q) [BitVec.ofNat 8 (0x03 + 16 * q.code)] := by
  cases q <;> exact ⟨rfl, rfl⟩

theorem encodes_decRp (q : Rp) : Encodes (Instr.decRp q) [BitVec.ofNat 8 (0x0B + 16 * q.code)] := by
  cases q <;> exact ⟨rfl, rfl⟩

theorem encodes_rot (op : RotOp) (o : Operand8) :
    Encodes (Instr.rot op o) [0xCB#8, BitVec.ofNat 8 (8 * op.code + o.code)] := by
  rcases o with ⟨⟨⟩⟩ | ⟨⟩ <;> cases op <;> exact ⟨rfl, rfl⟩

theorem encodes_bit (b : Oct) (o : Operand8) :
    Encodes (Instr.bit b o) [0xCB#8, BitVec.ofNat 8 (0x40 + 8 * b.toNat + o.code)] := by
  rcases o with ⟨⟨⟩⟩ | ⟨⟩ <;> cases b <;> exact ⟨rfl, rfl⟩

theorem encodes_res (b : Oct) (o : Operand8) :
    Encodes (Instr.res b o) [0xCB#8, BitVec.ofNat 8 (0x80 + 8 * b.toNat + o.code)] := by
  rcases o with ⟨⟨⟩⟩ | ⟨⟩ <;> cases b <;> exact ⟨rfl, rfl⟩

theorem encodes_set (b : Oct) (o : Operand8) :
    Encodes (Instr.set b o) [0xCB#8, BitVec.ofNat 8 (0xC0 + 8 * b.toNat + o.code)] := by
  rcases o with ⟨⟨⟩⟩ | ⟨⟩ <;> cases b <;> exact ⟨rfl, rfl⟩

theorem encodes_jrCc (cc : Cond) (e : Byte) : Encodes (Instr.jrCc cc e) [BitVec.ofNat 8 (0x20 + 8 * cc.code), e] := by
  cases cc <;> exact ⟨rfl, rfl⟩

theorem encodes_jpCc (cc : Cond) (a : Word) :
    Encodes (Instr.jpCc cc a) (opWord (BitVec.ofNat 8 (0xC2 + 8 * cc.code)) a) := by
  cases cc <;> exact ⟨rfl, rfl⟩

theorem encodes_callCc (cc : Cond) (a : Word) :
    Encodes (Instr.callCc cc a) (opWord (BitVec.ofNat 8 (0xC4 + 8 * cc.code)) a) := by
  cases cc <;> exact ⟨rfl, rfl⟩

theorem encodes_retCc (cc : Cond) : Encodes (Instr.retCc cc) [BitVec.ofNat 8 (0xC0 + 8 * cc.code)] := by
  cases cc <;> exact ⟨rfl, rfl⟩

theorem encodes_rst (y : Oct) : Encodes (Instr.rst y) [BitVec.ofNat 8 (0xC7 + 8 * y.toNat)] := by
  cases y <;> exact ⟨rfl, rfl⟩

/-! The decoder's tables against the encoder, row by row. -/

/-- The instructions a form gives the opcode `op` encode as `op` with the operand bytes that R136 places after it. -/
def FormEncodes (op : Byte) : Form → Prop
  | .op i => Encodes i [op]
  | .byte f => ∀ v, Encodes (f v) [op, v]
  | .word f => ∀ v, Encodes (f v) (opWord op v)
  | .extended => op = 0xCB#8
  | .unassigned => Encodes (.undefined op) [op]

/-- Rows `x = 0` of R133. -/
theorem primary0_encodes {op : Byte} (hx : (fieldX op).toNat = 0) : FormEncodes op (primary0 op) := by
  have hop := toNat_eq_fields op
  have hy := (fieldY op).isLt
  have hz := (fieldZ op).isLt
  unfold primary0
  split
  · split
    · exact .of_opcode ⟨rfl, rfl⟩ (by lia)
    · exact fun v => .of_opcode ⟨rfl, rfl⟩ (by lia)
    · exact fun v => .of_opcode ⟨rfl, rfl⟩ (by lia)
    · exact fun v => .of_opcode ⟨rfl, rfl⟩ (by lia)
    · exact fun v => (encodes_jrCc _ v).of_opcode (by rw [condOf_code]; lia)
  · split <;> rename_i hq
    · have := fieldY_of_fieldQ hq
      exact (encodes_addHLRp _).of_opcode (by rw [rpOf_code]; lia)
    · have := fieldY_of_not_fieldQ hq
      exact fun v => (encodes_ldRpImm _ v).of_opcode (by rw [rpOf_code]; lia)
  · split <;> exact .of_opcode ⟨rfl, rfl⟩ (by lia)
  · split <;> rename_i hq
    · have := fieldY_of_fieldQ hq
      exact (encodes_decRp _).of_opcode (by rw [rpOf_code]; lia)
    · have := fieldY_of_not_fieldQ hq
      exact (encodes_incRp _).of_opcode (by rw [rpOf_code]; lia)
  · split <;> rename_i ho
    · exact (encodes_incR _).of_opcode (by rw [code_of_operand8Of ho]; lia)
    · have := eq_six_of_operand8Of ho
      exact .of_opcode ⟨rfl, rfl⟩ (by lia)
  · split <;> rename_i ho
    · exact (encodes_decR _).of_opcode (by rw [code_of_operand8Of ho]; lia)
    · have := eq_six_of_operand8Of ho
      exact .of_opcode ⟨rfl, rfl⟩ (by lia)
  · split <;> rename_i ho
    · exact fun v => (encodes_ldRImm _ v).of_opcode (by rw [code_of_operand8Of ho]; lia)
    · have := eq_six_of_operand8Of ho
      exact fun v => .of_opcode ⟨rfl, rfl⟩ (by lia)
  · split <;> exact .of_opcode ⟨rfl, rfl⟩ (by lia)

/-- Row `x = 1` of R133. -/
theorem primary1_encodes {op : Byte} (hx : (fieldX op).toNat = 1) : FormEncodes op (primary1 op) := by
  have hop := toNat_eq_fields op
  unfold primary1
  split <;> rename_i hdst hsrc
  · exact (encodes_ldRR _ _).of_opcode (by rw [code_of_operand8Of hdst, code_of_operand8Of hsrc]; lia)
  · have := eq_six_of_operand8Of hsrc
    exact (encodes_ldRAtHL _).of_opcode (by rw [code_of_operand8Of hdst]; lia)
  · have := eq_six_of_operand8Of hdst
    exact (encodes_ldAtHLR _).of_opcode (by rw [code_of_operand8Of hsrc]; lia)
  · have := eq_six_of_operand8Of hdst
    have := eq_six_of_operand8Of hsrc
    exact .of_opcode ⟨rfl, rfl⟩ (by lia)

/-- Row `x = 2` of R133. -/
theorem primary2_encodes {op : Byte} (hx : (fieldX op).toNat = 2) : FormEncodes op (primary2 op) := by
  have hop := toNat_eq_fields op
  unfold primary2
  split <;> rename_i ho
  · exact (encodes_alu _ (.reg _)).of_opcode (by rw [aluOf_code, code_of_operand8Of ho]; lia)
  · have := eq_six_of_operand8Of ho
    exact (encodes_alu _ .mem).of_opcode (by rw [aluOf_code]; lia)

/-- The unassigned bytes of R138 by their fields. -/
theorem encodes_undefined {op : Byte} (hx : (fieldX op).toNat = 3)
    (h : (fieldZ op).toNat = 3 ∧ 2 ≤ (fieldY op).toNat ∧ (fieldY op).toNat ≤ 5 ∨
      (fieldZ op).toNat = 4 ∧ 4 ≤ (fieldY op).toNat ∨
      (fieldZ op).toNat = 5 ∧ 3 ≤ (fieldY op).toNat ∧ fieldQ op = true) :
    Encodes (.undefined op) [op] := by
  refine ⟨?_, rfl⟩
  revert op
  decide

/-- Rows `x = 3` of R133. -/
theorem primary3_encodes {op : Byte} (hx : (fieldX op).toNat = 3) : FormEncodes op (primary3 op) := by
  have hop := toNat_eq_fields op
  have hy := (fieldY op).isLt
  have hz := (fieldZ op).isLt
  have hp := (fieldP op).isLt
  unfold primary3
  split
  · split
    · exact fun v => .of_opcode ⟨rfl, rfl⟩ (by lia)
    · exact fun v => .of_opcode ⟨rfl, rfl⟩ (by lia)
    · exact fun v => .of_opcode ⟨rfl, rfl⟩ (by lia)
    · exact fun v => .of_opcode ⟨rfl, rfl⟩ (by lia)
    · exact (encodes_retCc _).of_opcode (by rw [condOf_code]; lia)
  · split <;> rename_i hq
    · have := fieldY_of_fieldQ hq
      split <;> exact .of_opcode ⟨rfl, rfl⟩ (by lia)
    · have := fieldY_of_not_fieldQ hq
      exact (encodes_popRp2 _).of_opcode (by rw [rp2Of_code]; lia)
  · split
    · exact .of_opcode ⟨rfl, rfl⟩ (by lia)
    · exact fun v => .of_opcode ⟨rfl, rfl⟩ (by lia)
    · exact .of_opcode ⟨rfl, rfl⟩ (by lia)
    · exact fun v => .of_opcode ⟨rfl, rfl⟩ (by lia)
    · exact fun v => (encodes_jpCc _ v).of_opcode (by rw [condOf_code]; lia)
  · split
    · exact fun v => .of_opcode ⟨rfl, rfl⟩ (by lia)
    · exact BitVec.eq_of_toNat_eq (show op.toNat = 0xCB by lia)
    · exact .of_opcode ⟨rfl, rfl⟩ (by lia)
    · exact .of_opcode ⟨rfl, rfl⟩ (by lia)
    · exact encodes_undefined hx (by lia)
  · split
    · exact fun v => (encodes_callCc .nz v).of_opcode (by rw [Cond.code]; lia)
    · exact fun v => (encodes_callCc .z v).of_opcode (by rw [Cond.code]; lia)
    · exact fun v => (encodes_callCc .nc v).of_opcode (by rw [Cond.code]; lia)
    · exact fun v => (encodes_callCc .c v).of_opcode (by rw [Cond.code]; lia)
    · exact encodes_undefined hx (by lia)
  · split <;> rename_i hq
    · have := fieldY_of_fieldQ hq
      split
      · exact fun v => .of_opcode ⟨rfl, rfl⟩ (by lia)
      · exact encodes_undefined hx (by lia)
    · have := fieldY_of_not_fieldQ hq
      exact (encodes_pushRp2 _).of_opcode (by rw [rp2Of_code]; lia)
  · exact fun v => (encodes_alu _ (.imm v)).of_opcode (by rw [aluOf_code]; lia)
  · exact (encodes_rst _).of_opcode (by rw [octOf_toNat]; lia)

/-- The primary table (R133). -/
theorem primary_encodes (op : Byte) : FormEncodes op (primary op) := by
  have hx := (fieldX op).isLt
  unfold primary
  split <;> rename_i h
  · exact primary0_encodes h
  · exact primary1_encodes h
  · exact primary2_encodes h
  · exact primary3_encodes (by lia)

/-- The length decoded is the first byte's (R137). -/
theorem decodeWindow_length (b0 b1 b2 : Byte) : (decodeWindow b0 b1 b2).2 = opLength b0 := by
  unfold decodeWindow opLength
  cases primary b0 <;> rfl

/-- The bytes of an opcode with the 16-bit operand read after it (R136). -/
theorem opWord_append (op lo hi : Byte) : opWord op (hi ++ lo) = [op, lo, hi] := by
  rw [opWord, low_append, high_append]

/-- What the decoder reads at an address encodes as the bytes it takes there. -/
theorem decodeWindow_encodes (b0 b1 b2 : Byte) :
    Encodes (decodeWindow b0 b1 b2).1 ([b0, b1, b2].take (decodeWindow b0 b1 b2).2) := by
  have h := primary_encodes b0
  unfold decodeWindow
  cases hf : primary b0 <;> rw [hf] at h
  case op i => exact h
  case byte f => exact h b1
  case word f =>
    have hw := h (b2 ++ b1)
    rwa [opWord_append] at hw
  case extended =>
    obtain rfl : b0 = 0xCB#8 := h
    exact ⟨wellFormed_extended b1, encode_extended b1⟩
  case unassigned => exact h

/-- Settles O6: the decoded instruction encodes as the bytes taken, and their number is the first byte's length. -/
theorem encodeOfDecode : Obligations.EncodeOfDecode := by
  unfold Obligations.EncodeOfDecode
  intro b0 b1 b2 i n h
  have hlen := decodeWindow_length b0 b1 b2
  obtain ⟨hw, he⟩ := decodeWindow_encodes b0 b1 b2
  rw [h] at hlen hw he
  refine ⟨hw, he, hlen.trans ?_⟩
  clear h hlen hw he
  revert b0
  decide

/-! The extended table (R135) and the byte 0xCB alone (46_system.md R266). -/

/-- After the byte 0xCB the decoder reads the extended table. -/
theorem decodeWindow_extended (op2 b2 : Byte) : decodeWindow 0xCB#8 op2 b2 = (extended op2, 2) := rfl

/-- An instruction with an extended encoding is what the decoder reads from it, whatever byte follows. -/
theorem Encodes.decodeWindow_eq {i : Instr} {op2 : Byte} (h : Encodes i [0xCB#8, op2]) (b2 : Byte) :
    decodeWindow 0xCB#8 op2 b2 = (i, 2) := by
  obtain ⟨hw, he⟩ := h
  have hp : i ≠ .prefixCB := by
    rintro rfl
    exact nomatch (show [0xCB#8] = [0xCB#8, op2] from he)
  have hd : extended op2 = i := by simpa [he, decodeWindow_extended] using decodeWindow_encode hw hp
  rw [decodeWindow_extended, hd]

/-- The byte 0xCB alone runs what the extended table selects by the byte at `pc`, `pc` past it. -/
theorem exec_prefixCB (s : State) :
    exec .prefixCB s = exec (extended (read8 s s.cpu.pc)) (advance s 1) :=
  ((extended_meaning (read8 s s.cpu.pc)).exec_eq (advance s 1)).symm

/-- Settles O7: the extended instructions are decoded from their encodings, and the byte 0xCB alone runs one. -/
theorem extendedTable : Obligations.ExtendedTable := by
  unfold Obligations.ExtendedTable
  refine ⟨fun o b2 => ⟨fun op => ?_, fun b => ?_, fun b => ?_, fun b => ?_⟩, exec_prefixCB,
    fun s => ⟨prefixed s, rfl⟩⟩
  · exact (encodes_rot op o).decodeWindow_eq b2
  · exact (encodes_bit b o).decodeWindow_eq b2
  · exact (encodes_res b o).decodeWindow_eq b2
  · exact (encodes_set b o).decodeWindow_eq b2

end Sys2Proof.Machine
end

section
/-! The 8-bit loads and stores (40_load8.md): an instruction's bytes and its whole effect, from the family it belongs to. -/

namespace Sys2Proof.Machine

open Sys2Proof

/-- An instruction of a family has the family's encoding and takes the state where the family's meaning does. -/
theorem Meaning.encode_exec {i : Instr} {f : State → State} {bytes : List Byte} {s t : State} (hm : Meaning i f)
    (he : Encodes i bytes) (hf : f s = t) : encode i = bytes ∧ exec i s = .next t :=
  ⟨he.bytes_eq, by rw [hm.exec_eq, hf]⟩

/-! The operands, in the statements' terms. -/

/-- A 16-bit operand follows the opcode low byte first (30_encoding.md R136). -/
theorem opWord_eq (op : Byte) (v : Word) : opWord op v = [op, lowByte v, highByte v] := by
  rw [lowByte_eq_loByte, highByte_eq_hiByte]
  rfl

/-- The high page starts at 0xFF00 (R172 to R175). -/
theorem highPage_eq_ofNat (o : Byte) : highPage o = BitVec.ofNat 16 (0xFF00 + o.toNat) := by
  revert o
  decide

/-- Word addition is modulo 65536. -/
theorem add_ofNat_eq_ofNat (v : Word) (n : Nat) : v + BitVec.ofNat 16 n = BitVec.ofNat 16 (v.toNat + n) := by
  rw [BitVec.ofNat_add, BitVec.ofNat_toNat, BitVec.setWidth_eq]

/-! The stores' effects: the byte store changes no register, so the CPU's other changes are to the old registers. -/

theorem storeAt_eq (a : Word) (v : Byte) (n : Nat) (s : State) :
    storeAt a v n s = (write8 s a v).setCpu { s.cpu with cycles := n } :=
  write8_onCpu s a v (Cpu.spend n)

/-- A write of `HL` writes `H` and `L` (10_state.md R21). -/
theorem Cpu.setPair_hl_eq (p : Cpu) (v : Word) : p.setPair .hl v = { p with h := highByte v, l := lowByte v } := by
  rw [highByte_eq_hiByte, lowByte_eq_loByte]
  rfl

section MovingHL
variable {s : State} {d v : Word} (h : s.cpu.atHL + d = v)
include h

/-- The store goes to the old `HL`. -/
theorem storeAThenMoveHL_eq :
    storeAThenMoveHL d s = (write8 s s.cpu.atHL s.cpu.a).setCpu
      { s.cpu with h := highByte v, l := lowByte v, cycles := 8 } := by
  subst h
  rw [storeAThenMoveHL, write8_onCpu, Cpu.setPair_hl_eq]
  rfl

/-- The load is from the old `HL`. -/
theorem loadAThenMoveHL_eq :
    loadAThenMoveHL d s = s.setCpu
      { s.cpu with a := read8 s s.cpu.atHL, h := highByte v, l := lowByte v, cycles := 8 } := by
  subst h
  rw [loadAThenMoveHL, Cpu.setPair_hl_eq]
  rfl

end MovingHL

/-! The obligations. -/

/-- Settles O15: both families by their meanings, for every register. -/
theorem loadRegister : Obligations.LoadRegister := by
  unfold Obligations.LoadRegister
  constructor
  · exact fun r q _ => (Meaning.ldRR r q).encode_exec (encodes_ldRR r q) rfl
  · exact fun r v _ => (Meaning.ldRImm r v).encode_exec (encodes_ldRImm r v) rfl

/-- Settles O16: each is a load at its address. -/
theorem loadFromMemory : Obligations.LoadFromMemory := by
  unfold Obligations.LoadFromMemory
  intro s
  refine ⟨fun r => ?hl, ?bc, ?de, fun a => ?a16, fun o => ?a8, ?c⟩
  case hl => exact (Meaning.ldRAtHL r).encode_exec (encodes_ldRAtHL r) rfl
  case bc => exact Meaning.ldAAtBC.encode_exec ⟨rfl, rfl⟩ rfl
  case de => exact Meaning.ldAAtDE.encode_exec ⟨rfl, rfl⟩ rfl
  case a16 => exact (Meaning.ldAAtWord a).encode_exec ⟨rfl, opWord_eq _ a⟩ rfl
  case a8 =>
    rw [← highPage_eq_ofNat]
    exact (Meaning.ldhAAtByte o).encode_exec ⟨rfl, rfl⟩ rfl
  case c =>
    rw [← highPage_eq_ofNat]
    exact Meaning.ldAAtC.encode_exec ⟨rfl, rfl⟩ rfl

/-- Settles O17: each is a store at its address. -/
theorem storeToMemory : Obligations.StoreToMemory := by
  unfold Obligations.StoreToMemory
  intro s
  refine ⟨fun r => ?hl, fun v => ?imm, ?bc, ?de, fun a => ?a16, fun o => ?a8, ?c⟩
  case hl => exact (Meaning.ldAtHLR r).encode_exec (encodes_ldAtHLR r) (storeAt_eq _ _ _ s)
  case imm => exact (Meaning.ldAtHLImm v).encode_exec ⟨rfl, rfl⟩ (storeAt_eq _ _ _ s)
  case bc => exact Meaning.ldAtBCA.encode_exec ⟨rfl, rfl⟩ (storeAt_eq _ _ _ s)
  case de => exact Meaning.ldAtDEA.encode_exec ⟨rfl, rfl⟩ (storeAt_eq _ _ _ s)
  case a16 => exact (Meaning.ldAtWordA a).encode_exec ⟨rfl, opWord_eq _ a⟩ (storeAt_eq _ _ _ s)
  case a8 =>
    rw [← highPage_eq_ofNat]
    exact (Meaning.ldhAtByteA o).encode_exec ⟨rfl, rfl⟩ (storeAt_eq _ _ _ s)
  case c =>
    rw [← highPage_eq_ofNat]
    exact Meaning.ldAtCA.encode_exec ⟨rfl, rfl⟩ (storeAt_eq _ _ _ s)

/-- Settles O18: the old `HL` addresses, and `-1` is 65535 modulo 65536. -/
theorem loadMovingHL : Obligations.LoadMovingHL := by
  unfold Obligations.LoadMovingHL
  intro s up down hup hdown
  have hu : s.cpu.atHL + 1#16 = up := (add_ofNat_eq_ofNat _ 1).trans hup.symm
  have hd : s.cpu.atHL + -1#16 = down := (add_ofNat_eq_ofNat _ 65535).trans hdown.symm
  refine ⟨?_, ?_, ?_, ?_⟩
  · exact Meaning.ldAtHLIA.encode_exec ⟨rfl, rfl⟩ (storeAThenMoveHL_eq hu)
  · exact Meaning.ldAtHLDA.encode_exec ⟨rfl, rfl⟩ (storeAThenMoveHL_eq hd)
  · exact Meaning.ldAAtHLI.encode_exec ⟨rfl, rfl⟩ (loadAThenMoveHL_eq hu)
  · exact Meaning.ldAAtHLD.encode_exec ⟨rfl, rfl⟩ (loadAThenMoveHL_eq hd)

end Sys2Proof.Machine
end

section
/-! The 16-bit loads and the stack (41_load16.md), and `ADD SP,e8` (43_alu16.md R213), whose result and flags are those
of `LD HL,SP+e8`. -/

namespace Sys2Proof.Machine

open Sys2Proof

/-! Signed offsets and flag bytes, in the statements' terms. -/

/-- The number of a signed byte is the library's two's complement reading (00_scope.md R8). -/
theorem signed_eq_toInt (e : Byte) : signed e = e.toInt := by
  rw [signed, BitVec.toInt_eq_toNat_cond]
  split_ifs <;> omega

/-- Adding a sign-extended byte adds its signed number modulo 65536. -/
theorem add_sext16_eq_ofInt (v : Word) (e : Byte) : v + sext16 e = BitVec.ofInt 16 ((v.toNat : Int) + signed e) := by
  rw [signed_eq_toInt, BitVec.ofInt_add, BitVec.ofInt_natCast, BitVec.ofNat_toNat, BitVec.setWidth_eq]
  rfl

/-- Packed flags are the byte with the flags at the positions of 10_state.md R24. -/
theorem Flags.pack_eq_flagByte (g : Flags) : g.pack = flagByte g.z g.n g.h g.c := by
  obtain ⟨z, n, h, c⟩ := g
  cases z <;> cases n <;> cases h <;> cases c <;> rfl

/-- The low nibble is the remainder modulo 16. -/
theorem lowNibble_eq_mod (b : Byte) : lowNibble b = b.toNat % 16 := toNat_and_low_nibble b

/-- The carries of `SP + e8` are those of the unsigned low byte of `SP` and the offset (R183, R213). -/
theorem spOffset_flags_pack (sp : Word) (e : Byte) :
    (spOffset sp e).2.pack = flagByte false false (decide (0x0F < sp.toNat % 16 + e.toNat % 16))
      (decide (0xFF < sp.toNat % 256 + e.toNat)) := by
  have hnibble : (sp &&& 0x000F#16).toNat = sp.toNat % 16 :=
    (BitVec.toNat_and ..).trans (Nat.and_two_pow_sub_one_eq_mod _ 4)
  have hbyte : (sp &&& 0x00FF#16).toNat = sp.toNat % 256 :=
    (BitVec.toNat_and ..).trans (Nat.and_two_pow_sub_one_eq_mod _ 8)
  rw [Flags.pack_eq_flagByte, spOffset, hnibble, hbyte, lowNibble_eq_mod]

/-! The stores and the stack. -/

theorem storeSp_eq (a : Word) (s : State) :
    storeSp a s = (write8 (write8 s a (lowByte s.cpu.sp)) (BitVec.ofNat 16 (a.toNat + 1)) (highByte s.cpu.sp)).setCpu
      { s.cpu with cycles := 20 } := by
  rw [lowByte_eq_loByte, highByte_eq_hiByte, ← add_ofNat_eq_ofNat, storeSp, State.spend, write16_cpu]
  rfl

/-- The two byte stores of a push (00_scope.md R10). -/
theorem write16_eq_pushedBytes (s : State) (v : Word) : write16 s (s.cpu.sp - 2#16) v = pushedBytes s v := by
  have hsecond : s.cpu.sp - 2#16 + 1#16 = s.cpu.sp - 1#16 := sub_add _ (2#16) (1#16)
  rw [write16, pushedBytes, hsecond, lowByte_eq_loByte, highByte_eq_hiByte]

/-- `PUSH rp2` (R184): two byte stores below the old `SP`, and `SP` moved down by 2. -/
theorem exec_pushRp2 (q : Rp2) (s : State) :
    exec (Instr.pushRp2 q) s = .next ((pushedBytes s (s.cpu.getPair q.pair)).setCpu
      { s.cpu with sp := s.cpu.sp - 2#16, cycles := 16 }) := by
  rw [(Meaning.pushRp2 q).exec_eq, pushPair, push16_eq, write16_eq_pushedBytes]
  rfl

/-- `POP rp2` (R185, R186): the pair takes the word at the old `SP`, and `SP` moves up by 2. -/
theorem exec_popRp2 (q : Rp2) (s : State) :
    exec (Instr.popRp2 q) s = .next (s.setCpu
      (({ s.cpu with sp := s.cpu.sp + 2#16 }.setPair q.pair (poppedWord s)).spend 12)) :=
  (Meaning.popRp2 q).exec_eq s

/-- The low byte of the popped word is the byte at `SP`. -/
theorem loByte_poppedWord (s : State) : loByte (poppedWord s) = read8 s s.cpu.sp := loByte_append _ _

/-- The high byte of the popped word is the byte at `SP + 1`. -/
theorem hiByte_poppedWord (s : State) : hiByte (poppedWord s) = read8 s (s.cpu.sp + 1#16) := hiByte_append _ _

/-! The obligations. -/

/-- Settles O20: the offset's sign extension adds its signed number, and both instructions share sum and flags. -/
theorem stackPointerOffset : Obligations.StackPointerOffset := by
  unfold Obligations.StackPointerOffset
  intro s e v f hv hf
  rw [← add_sext16_eq_ofInt] at hv
  rw [← spOffset_flags_pack] at hf
  rw [lowByte_eq_loByte, highByte_eq_hiByte, hv, hf]
  constructor
  · exact (Meaning.ldHLSPOffset e).encode_exec ⟨rfl, rfl⟩ rfl
  · exact (Meaning.addSPOffset e).encode_exec ⟨rfl, rfl⟩ rfl

/-- Settles O19: a pair write is a write of its two bytes, and a word is stored as its two bytes. -/
theorem load16 : Obligations.Load16 := by
  unfold Obligations.Load16
  intro s v
  have hld (q : Rp) : exec (Instr.ldRpImm q v) s = .next (s.setCpu ((s.cpu.setPair q.pair v).spend 12)) :=
    (Meaning.ldRpImm q v).exec_eq s
  rw [lowByte_eq_loByte v, highByte_eq_hiByte v]
  refine ⟨fun q => (encodes_ldRpImm q v).bytes_eq, hld .bc, hld .de, hld .hl, hld .sp, ?storeSp, ?copyHL⟩
  case storeSp => exact (Meaning.ldAtWordSP v).encode_exec ⟨rfl, rfl⟩ (storeSp_eq v s)
  case copyHL => exact Meaning.ldSPHL.encode_exec ⟨rfl, rfl⟩ rfl

/-- Settles O21: one effect for all four pairs; the popped word's bytes are the two bytes read. -/
theorem stack : Obligations.Stack := by
  unfold Obligations.Stack
  intro s
  rw [← hiByte_poppedWord, ← loByte_poppedWord]
  refine ⟨?encodings, ⟨?_, ?_, ?_, ?_⟩, ⟨?_, ?_, ?_, ?_⟩⟩
  case encodings => exact ⟨rfl, rfl, rfl, rfl, rfl, rfl, rfl, rfl⟩
  · exact exec_pushRp2 .bc s
  · exact exec_pushRp2 .de s
  · exact exec_pushRp2 .hl s
  · exact exec_pushRp2 .af s
  · exact exec_popRp2 .bc s
  · exact exec_popRp2 .de s
  · exact exec_popRp2 .hl s
  · exact exec_popRp2 .af s

end Sys2Proof.Machine
end

section
/-! The 16-bit arithmetic (43_alu16.md): `ADD HL,rp` writes `HL` and the flags, `INC rp` and `DEC rp` only the pair. -/

namespace Sys2Proof.Machine

open Sys2Proof

/-- The half carry of a word addition is the carry out of bit 11, and `Z` is kept (R210). -/
theorem addWords_flags_pack (a v : Word) (g : Flags) :
    (addWords a v g).2.pack = flagByte g.z false (decide (0x0FFF < a.toNat % 4096 + v.toNat % 4096))
      (decide (0xFFFF < a.toNat + v.toNat)) := by
  have hlow (w : Word) : (w &&& 0x0FFF#16).toNat = w.toNat % 4096 :=
    (BitVec.toNat_and ..).trans (Nat.and_two_pow_sub_one_eq_mod _ 12)
  rw [Flags.pack_eq_flagByte, addWords, hlow, hlow]

/-- `ADD HL,rp` (R210): the sum's two bytes go to `H` and `L`, and the packed flags of the addition to `F`. -/
theorem addToHL_eq (q : Pair) (s : State) :
    addToHL q s = s.setCpu { s.cpu with
      h := highByte (addWords s.cpu.hl (s.cpu.getPair q) s.cpu.flags).1,
      l := lowByte (addWords s.cpu.hl (s.cpu.getPair q) s.cpu.flags).1,
      f := (addWords s.cpu.hl (s.cpu.getPair q) s.cpu.flags).2.pack, cycles := 8 } := by
  rw [addToHL, Cpu.setPair_hl_eq]
  rfl

/-- `INC rp` (R211): one more, modulo 65536. -/
theorem incPair_eq (q : Pair) (s : State) :
    incPair q s = s.setCpu
      { s.cpu.setPair q (BitVec.ofNat 16 ((s.cpu.getPair q).toNat + 1)) with cycles := 8 } := by
  rw [← add_ofNat_eq_ofNat]
  rfl

/-- `DEC rp` (R212): one less is 65535 more, modulo 65536. -/
theorem decPair_eq (q : Pair) (s : State) :
    decPair q s = s.setCpu
      { s.cpu.setPair q (BitVec.ofNat 16 ((s.cpu.getPair q).toNat + 65535)) with cycles := 8 } := by
  have hsub : s.cpu.getPair q - 1#16 = s.cpu.getPair q + BitVec.ofNat 16 65535 := sub_eq_add_neg _ (1#16)
  rw [← add_ofNat_eq_ofNat, ← hsub]
  rfl

/-- Settles O27: each family by its meaning, for every pair. -/
theorem arithmetic16 : Obligations.Arithmetic16 := by
  unfold Obligations.Arithmetic16
  rintro q s _ _ _ rfl rfl rfl
  refine ⟨?add, ?inc, ?dec⟩
  case add =>
    refine (Meaning.addHLRp q).encode_exec (encodes_addHLRp q) ?_
    rw [addToHL_eq, addWords_flags_pack]
    rfl
  case inc => exact (Meaning.incRp q).encode_exec (encodes_incRp q) (incPair_eq q.pair s)
  case dec => exact (Meaning.decRp q).encode_exec (encodes_decRp q) (decPair_eq q.pair s)

end Sys2Proof.Machine
end

section
/-! The rotates, shifts and single bits (44_rotate_bit.md): results on bytes as results on their numbers, then each
operation's whole effect on an operand, a register or the byte at `HL` alike. -/

namespace Sys2Proof.Machine

open Sys2Proof

/-! The parts of a byte as numbers. -/

/-- Of two parts put together the lower weighs as it is. -/
theorem toNat_append_eq_add {n m : Nat} (a : BitVec n) (b : BitVec m) :
    (a ++ b).toNat = a.toNat * 2 ^ m + b.toNat := by
  rw [BitVec.toNat_append, ← Nat.shiftLeft_add_eq_or_of_lt b.isLt, Nat.shiftLeft_eq]

/-- Bits `start` and up, `len` of them. -/
theorem toNat_extractLsb'_eq_div_mod {n : Nat} (v : BitVec n) (start len : Nat) :
    (v.extractLsb' start len).toNat = v.toNat / 2 ^ start % 2 ^ len := by
  rw [BitVec.extractLsb'_toNat, Nat.shiftRight_eq_div_pow]

/-- Bit `i` as the number 0 or 1. -/
theorem toNat_getLsbD_eq_div_mod {n : Nat} (v : BitVec n) (i : Nat) : (v.getLsbD i).toNat = v.toNat / 2 ^ i % 2 := by
  rw [← BitVec.testBit_toNat, Nat.toNat_testBit]

/-- The bit a right shift drops. -/
theorem toNat_bit0 (v : Byte) : v[0].toNat = v.toNat % 2 := by
  rw [← BitVec.getLsbD_eq_getElem, toNat_getLsbD_eq_div_mod]
  omega

/-- The bit a left shift drops. -/
theorem toNat_bit7 (v : Byte) : v[7].toNat = v.toNat / 128 := by
  rw [← BitVec.getLsbD_eq_getElem, toNat_getLsbD_eq_div_mod]
  omega

/-- A left shift moves the bit `b` in at the bottom. -/
theorem toNat_shiftedLeft (v : Byte) (b : BitVec 1) :
    (v.extractLsb' 0 7 ++ b).toNat = 2 * v.toNat % 256 + b.toNat := by
  rw [toNat_append_eq_add, toNat_extractLsb'_eq_div_mod]
  omega

/-- A right shift moves the bit `b` in at the top. -/
theorem toNat_shiftedRight (v : Byte) (b : BitVec 1) :
    (b ++ v.extractLsb' 1 7).toNat = v.toNat / 2 + 128 * b.toNat := by
  rw [toNat_append_eq_add, toNat_extractLsb'_eq_div_mod]
  omega

theorem toNat_swappedNibbles (v : Byte) :
    (v.extractLsb' 0 4 ++ v.extractLsb' 4 4).toNat = 16 * v.toNat % 256 + v.toNat / 16 := by
  rw [toNat_append_eq_add, toNat_extractLsb'_eq_div_mod, toNat_extractLsb'_eq_div_mod]
  omega

/-! Rotates and shifts (R220 to R231). -/

/-- A rotate, shift or `SWAP` of a byte, and the bit shifted out, are those of its number. -/
theorem rotated_toNat (op : RotOp) (v : Byte) (c : Bool) :
    rotated op v.toNat c.toNat = ((rotate op v c).1.toNat, (rotate op v c).2.toNat) := by
  cases op with
  | rlc | rl | sla => simp [rotated, rotate, toNat_shiftedLeft, toNat_bit7]
  | rrc | rr | sra | srl => simp [rotated, rotate, toNat_shiftedRight, toNat_bit0, toNat_bit7]
  | swap => simp [rotated, rotate, toNat_swappedNibbles]

section Rotated
variable {op : RotOp} {v : Byte} {c : Bool} {q : Nat × Nat} (hq : q = rotated op v.toNat c.toNat)
include hq

theorem rotate_fst_eq : (rotate op v c).1 = BitVec.ofNat 8 q.1 := by
  rw [hq, rotated_toNat, BitVec.ofNat_toNat, BitVec.setWidth_eq]

theorem rotate_snd_eq : (rotate op v c).2 = decide (q.2 = 1) := by
  rw [hq, rotated_toNat]
  cases (rotate op v c).2 <;> rfl

theorem rotate_fst_eq_zero_iff : (rotate op v c).1 = 0#8 ↔ q.1 = 0 := by
  rw [hq, rotated_toNat]
  exact BitVec.toNat_eq (y := 0#8)

/-- The flags of R220 to R223. -/
theorem rotateAFlags_pack : (rotateAFlags (rotate op v c).2).pack = flagByte false false false (decide (q.2 = 1)) := by
  rw [Flags.pack_eq_flagByte, rotate_snd_eq hq]
  rfl

/-- The flags of R224 to R231. -/
theorem rotateFlags_pack : (rotateFlags (rotate op v c).1 (rotate op v c).2).pack =
    flagByte (decide (q.1 = 0)) false false (decide (q.2 = 1)) := by
  have hz : ((rotate op v c).1 == 0#8) = decide (q.1 = 0) := decide_eq_decide.mpr (rotate_fst_eq_zero_iff hq)
  rw [Flags.pack_eq_flagByte, ← hz, ← rotate_snd_eq hq]
  rfl

end Rotated

/-- `RLCA`, `RRCA`, `RLA`, `RRA`: `A`, `F` and the cycles. -/
theorem rotateA_eq {op : RotOp} {s : State} {q : Nat × Nat} (hq : q = rotated op s.cpu.a.toNat s.cpu.cf.toNat) :
    rotateA op s = s.setCpu { s.cpu with
      a := BitVec.ofNat 8 q.1, f := flagByte false false false (decide (q.2 = 1)), cycles := 4 } := by
  rw [← rotate_fst_eq hq, ← rotateAFlags_pack hq]
  rfl

/-- The extended rotates: the result to the operand, then `F` and the cycles. -/
theorem rotateOperand_eq {op : RotOp} {o : Operand8} {s : State} {q : Nat × Nat}
    (hq : q = rotated op (getOperand s o).toNat s.cpu.cf.toNat) :
    rotateOperand op o s = (putOperand s o (BitVec.ofNat 8 q.1)).onCpu (fun p => { p with
      f := flagByte (decide (q.1 = 0)) false false (decide (q.2 = 1)), cycles := operandCost o }) := by
  rw [← rotateFlags_pack hq, ← rotate_fst_eq hq]
  rfl

/-! Single bits (R232 to R234). -/

/-- `Z` is the complement of the tested bit, read off the byte's number. -/
theorem bitFlags_pack (b : Nat) (v : Byte) (p : Cpu) :
    (bitFlags b v p.flags).pack = flagByte (decide (v.toNat / 2 ^ b % 2 = 0)) false true p.cf := by
  have hbit : (!v.getLsbD b) = decide (v.toNat / 2 ^ b % 2 = 0) := by
    rw [← toNat_getLsbD_eq_div_mod]
    cases v.getLsbD b <;> rfl
  rw [Flags.pack_eq_flagByte, ← hbit]
  rfl

theorem getLsbD_bitMask (b : Nat) {k : Nat} (hk : k < 8) : (bitMask b).getLsbD k = decide (k = b) := by
  rw [bitMask, ← BitVec.twoPow_eq, BitVec.getLsbD_twoPow]
  by_cases h : k = b
  · simp [← h, hk]
  · simp [h, Ne.symm h]

/-- The byte with bit `b` cleared, named by its bits. -/
theorem and_not_bitMask_eq {b : Nat} {v w : Byte}
    (h : ∀ k, k < 8 → w.getLsbD k = (decide (k ≠ b) && v.getLsbD k)) : v &&& ~~~bitMask b = w := by
  refine BitVec.eq_of_getLsbD_eq fun k hk => ?_
  rw [h k hk, BitVec.getLsbD_and, BitVec.getLsbD_not, getLsbD_bitMask b hk]
  simp [hk, Bool.and_comm]

/-- The byte with bit `b` set, named by its bits. -/
theorem or_bitMask_eq {b : Nat} {v w : Byte}
    (h : ∀ k, k < 8 → w.getLsbD k = (decide (k = b) || v.getLsbD k)) : v ||| bitMask b = w := by
  refine BitVec.eq_of_getLsbD_eq fun k hk => ?_
  rw [h k hk, BitVec.getLsbD_or, getLsbD_bitMask b hk, Bool.or_comm]

theorem testBit_eq (b : Nat) (o : Operand8) (s : State) :
    testBit b o s = s.setCpu { s.cpu with
      f := flagByte (decide ((getOperand s o).toNat / 2 ^ b % 2 = 0)) false true s.cpu.cf, cycles := testCost o } := by
  rw [← bitFlags_pack]
  rfl

theorem clearBit_eq {b : Nat} {o : Operand8} {s : State} {w : Byte}
    (h : ∀ k, k < 8 → w.getLsbD k = (decide (k ≠ b) && (getOperand s o).getLsbD k)) :
    clearBit b o s = (putOperand s o w).spend (operandCost o) := by
  rw [clearBit, and_not_bitMask_eq h]

theorem setBit_eq {b : Nat} {o : Operand8} {s : State} {w : Byte}
    (h : ∀ k, k < 8 → w.getLsbD k = (decide (k = b) || (getOperand s o).getLsbD k)) :
    setBit b o s = (putOperand s o w).spend (operandCost o) := by
  rw [setBit, or_bitMask_eq h]

/-! The obligations. -/

/-- Settles O28: the four are one operation on `A`. -/
theorem rotateAccumulator : Obligations.RotateAccumulator := by
  unfold Obligations.RotateAccumulator
  rintro s i op code q (⟨rfl, rfl, rfl⟩ | ⟨rfl, rfl, rfl⟩ | ⟨rfl, rfl, rfl⟩ | ⟨rfl, rfl, rfl⟩) hq
  · exact Meaning.rlca.encode_exec ⟨rfl, rfl⟩ (rotateA_eq hq)
  · exact Meaning.rrca.encode_exec ⟨rfl, rfl⟩ (rotateA_eq hq)
  · exact Meaning.rla.encode_exec ⟨rfl, rfl⟩ (rotateA_eq hq)
  · exact Meaning.rra.encode_exec ⟨rfl, rfl⟩ (rotateA_eq hq)

/-- Settles O29: one effect for every operand; the store at `HL` writes no register. -/
theorem rotateOperandEffect : Obligations.RotateOperand := by
  unfold Obligations.RotateOperand
  constructor
  · intro op r s q hq
    exact (Meaning.rot op (.reg r)).encode_exec (encodes_rot op (.reg r)) (rotateOperand_eq hq)
  · intro op s q hq
    exact (Meaning.rot op .atHL).encode_exec (encodes_rot op .atHL)
      ((rotateOperand_eq hq).trans (write8_onCpu ..))

/-- Settles O30: `BIT` writes `F` alone, `RES` and `SET` the operand that the statement names by its bits. -/
theorem singleBit : Obligations.SingleBit := by
  unfold Obligations.SingleBit
  constructor
  · intro b r s v0 v1 h0 h1
    refine ⟨?bit, ?res, ?set⟩
    case bit => exact (Meaning.bit b (.reg r)).encode_exec (encodes_bit b (.reg r)) (testBit_eq b.toNat (.reg r) s)
    case res => exact (Meaning.res b (.reg r)).encode_exec (encodes_res b (.reg r)) (clearBit_eq h0)
    case set => exact (Meaning.set b (.reg r)).encode_exec (encodes_set b (.reg r)) (setBit_eq h1)
  · intro b s v0 v1 h0 h1
    refine ⟨?bit, ?res, ?set⟩
    case bit => exact (Meaning.bit b .atHL).encode_exec (encodes_bit b .atHL) (testBit_eq b.toNat .atHL s)
    case res =>
      exact (Meaning.res b .atHL).encode_exec (encodes_res b .atHL) ((clearBit_eq h0).trans (write8_spend ..))
    case set =>
      exact (Meaning.set b .atHL).encode_exec (encodes_set b .atHL) ((setBit_eq h1).trans (write8_spend ..))

end Sys2Proof.Machine
end

section
/-! Control transfer (45_control.md): a jump writes `pc` alone, a call pushes it first, a return pops it; a conditional
form that is not taken does none of this. -/

namespace Sys2Proof.Machine

open Sys2Proof

/-- A condition on the unpacked flags is `cond(cc)` on the bits of `F` (R249). -/
theorem flags_meet_eq_holds (p : Cpu) (cc : Cond) : p.flags.meet cc = p.holds cc := by
  cases cc with
  | nz => exact (beq_false p.zf).symm
  | z => exact (beq_true p.zf).symm
  | nc => exact (beq_false p.cf).symm
  | c => exact (beq_true p.cf).symm

/-- A conditional jump (R241, R244): not taken, it only spends its T-cycles. -/
theorem jumpIf_eq (cc : Cond) (a : Word) (taken untaken : Nat) (s : State) :
    jumpIf cc a taken untaken s = s.setCpu (if s.cpu.holds cc then { s.cpu with pc := a, cycles := taken }
      else { s.cpu with cycles := untaken }) := by
  rw [jumpIf, flags_meet_eq_holds]
  split_ifs
  · rfl
  · rfl

/-- A call (R245, R253): the stores of the push are those of the old `pc`. -/
theorem call_eq (a : Word) (n : Nat) (s : State) :
    call a n s = (pushedBytes s s.cpu.pc).setCpu { s.cpu with sp := s.cpu.sp - 2#16, pc := a, cycles := n } := by
  rw [call, push16_eq, write16_eq_pushedBytes]
  rfl

/-- `CALL cc` (R246): not taken, it only spends its T-cycles. -/
theorem callIf_eq (cc : Cond) (a : Word) (s : State) :
    callIf cc a s = if s.cpu.holds cc then
        (pushedBytes s s.cpu.pc).setCpu { s.cpu with sp := s.cpu.sp - 2#16, pc := a, cycles := 24 }
      else s.setCpu { s.cpu with cycles := 12 } := by
  rw [callIf, flags_meet_eq_holds, call_eq]
  rfl

/-- `RET cc` (R248): not taken, it only spends its T-cycles. -/
theorem retIf_eq (cc : Cond) (s : State) :
    retIf cc s = s.setCpu (if s.cpu.holds cc then
        { s.cpu with pc := poppedWord s, sp := s.cpu.sp + 2#16, cycles := 20 }
      else { s.cpu with cycles := 8 }) := by
  rw [retIf, flags_meet_eq_holds]
  split_ifs
  · rfl
  · rfl

/-! The obligations. -/

/-- Settles O31: the sign-extended offset adds its signed number, and every jump is a write of `pc`. -/
theorem jumps : Obligations.Jumps := by
  unfold Obligations.Jumps
  rintro s a e cc _ rfl
  rw [← add_sext16_eq_ofInt, ← opWord_eq, ← opWord_eq]
  refine ⟨?jp, ?jpCc, ?jpHL, ?jr, ?jrCc⟩
  case jp => exact (Meaning.jp a).encode_exec ⟨rfl, rfl⟩ rfl
  case jpCc => exact (Meaning.jpCc cc a).encode_exec (encodes_jpCc cc a) (jumpIf_eq cc a 16 12 s)
  case jpHL => exact Meaning.jpHL.encode_exec ⟨rfl, rfl⟩ rfl
  case jr => exact (Meaning.jr e).encode_exec ⟨rfl, rfl⟩ rfl
  case jrCc => exact (Meaning.jrCc cc e).encode_exec (encodes_jrCc cc e) (jumpIf_eq cc (relative s e) 12 8 s)

/-- Settles O32: all three are one call, which `CALL cc` makes where its condition holds. -/
theorem calls : Obligations.Calls := by
  unfold Obligations.Calls
  intro s a cc y
  rw [← opWord_eq, ← opWord_eq]
  refine ⟨?call, ?callCc, ?rst⟩
  case call => exact (Meaning.call a).encode_exec ⟨rfl, rfl⟩ (call_eq a 24 s)
  case callCc => exact (Meaning.callCc cc a).encode_exec (encodes_callCc cc a) (callIf_eq cc a s)
  case rst => exact (Meaning.rst y).encode_exec (encodes_rst y) (call_eq (BitVec.ofNat 16 (8 * y.toNat)) 16 s)

/-- Settles O33: all three pop `pc`; `RETI` alone also writes `IME` and `ei_pending`. -/
theorem returns : Obligations.Returns := by
  unfold Obligations.Returns
  intro s cc
  refine ⟨?ret, ?retCc, ?reti⟩
  case ret => exact Meaning.ret.encode_exec ⟨rfl, rfl⟩ rfl
  case retCc => exact (Meaning.retCc cc).encode_exec (encodes_retCc cc) (retIf_eq cc s)
  case reti => exact Meaning.reti.encode_exec ⟨rfl, rfl⟩ rfl

end Sys2Proof.Machine
end

section
/-! The system instructions (46_system.md): each writes its own CPU fields and spends 4 T-cycles. -/

namespace Sys2Proof.Machine

open Sys2Proof

/-- Settles O34: each instruction's meaning is one write of the CPU, and `STOP` drops its pad byte. -/
theorem systemInstructions : Obligations.SystemInstructions := by
  unfold Obligations.SystemInstructions
  intro s pad
  refine ⟨?nop, ?di, ?ei, ?halt, ?stop⟩
  case nop => exact Meaning.nop.encode_exec ⟨rfl, rfl⟩ rfl
  case di => exact Meaning.di.encode_exec ⟨rfl, rfl⟩ rfl
  case ei => exact Meaning.ei.encode_exec ⟨rfl, rfl⟩ rfl
  case halt => exact Meaning.halt.encode_exec ⟨rfl, rfl⟩ rfl
  case stop => exact (Meaning.stop pad).encode_exec ⟨rfl, rfl⟩ rfl

end Sys2Proof.Machine
end

section
/-! The Timer (61_timer.md): the watched signal as a number, the four registers on the bus (R322 to R325), and `n` T-cycles
in closed form (R326, R327). -/

namespace Sys2Proof.Machine

open Sys2Proof

/-! The watched signal (R321). -/

theorem getLsbD_eq_decide {w : Nat} (v : BitVec w) (k : Nat) : v.getLsbD k = decide (v.toNat / 2 ^ k % 2 = 1) :=
  Nat.testBit_eq_decide_div_mod_eq

theorem Timer.selBit_eq (t : Timer) : t.selBit = selectedBit (t.tac.toNat % 4) := by
  unfold Timer.selBit
  generalize t.tac = tac
  revert tac
  decide

theorem Timer.sig_eq_watched (t : Timer) : t.sig = watched t.tac t.div16 := by
  have henable : t.tac.getLsbD 2 = decide (4 ≤ t.tac.toNat) := by
    generalize t.tac = tac
    revert tac
    decide
  rw [Timer.sig, watched, henable, Timer.selBit_eq, getLsbD_eq_decide]

/-- The increment of R327 on numbers. -/
theorem Timer.increment_eq_bumpIf (t : Timer) : t.increment = bumpIf true t := by
  have hmax : t.tima = 0xFF#8 ↔ t.tima.toNat = 255 := by rw [← BitVec.toNat_inj]; rfl
  have hsucc : t.tima + 1#8 = BitVec.ofNat 8 (t.tima.toNat + 1) := by
    rw [BitVec.ofNat_add, BitVec.ofNat_toNat, BitVec.setWidth_eq]
  simp only [Timer.increment, bumpIf, hmax, hsucc, Bool.true_eq_false, if_false]

/-- A falling edge increments (R321). -/
theorem Timer.edgeFrom_eq_bumpIf (old : Bool) (t : Timer) :
    Timer.edgeFrom old t = bumpIf (old && !watched t.tac t.div16) t := by
  rw [Timer.edgeFrom, Timer.sig_eq_watched, Timer.increment_eq_bumpIf]
  cases old && !watched t.tac t.div16 <;> rfl

/-! The registers on the bus (R322 to R325). -/

/-- The addresses of the four registers. -/
theorem route_port_timer {k : Nat} (hk : k < 4) :
    route (BitVec.ofNat 16 (0xFF04 + k)) = .io (0x04 + k) ∧ port (0x04 + k) = .timer k := by
  have ha : (BitVec.ofNat 16 (0xFF04 + k)).toNat = 0xFF04 + k := by
    rw [BitVec.toNat_ofNat]
    omega
  refine ⟨route_eq_iff.2 ⟨by omega, by omega, by omega⟩, ?_⟩
  simp (disch := omega) only [port, if_neg, if_pos, Nat.add_sub_cancel_left]

section Registers
variable {k : Nat} (hk : k < 4)
include hk

theorem read8_timer (s : State) : read8 s (BitVec.ofNat 16 (0xFF04 + k)) = s.timer.read k := by
  obtain ⟨hr, hp⟩ := route_port_timer hk
  simp only [read8_io hr, readPort, hp]

theorem write8_timer (s : State) (v : Byte) :
    write8 s (BitVec.ofNat 16 (0xFF04 + k)) v = { s with timer := s.timer.write k v } := by
  obtain ⟨hr, hp⟩ := route_port_timer hk
  simp only [write8_io hr, writePort, hp]

end Registers

/-- TAC reads with its five unimplemented bits set (R325). -/
theorem toNat_readTac (tac : BitVec 3) : (0xF8#8 ||| tac.setWidth 8).toNat = 0xF8 + tac.toNat := by
  revert tac
  decide

/-- With the divider at zero no bit is watched. -/
theorem watched_zero (tac : BitVec 3) : watched tac 0#16 = false := by
  simp [watched]

/-- Settles O42: the registers by address, a write of DIV or TAC with the edge it makes. -/
theorem timerRegisters : Obligations.TimerRegisters := by
  unfold Obligations.TimerRegisters
  intro s v
  rw [read8_timer (k := 0) (by decide), read8_timer (k := 1) (by decide), read8_timer (k := 2) (by decide),
    read8_timer (k := 3) (by decide), write8_timer (k := 0) (by decide), write8_timer (k := 1) (by decide),
    write8_timer (k := 2) (by decide), write8_timer (k := 3) (by decide)]
  refine ⟨(highByte_eq_hiByte _).symm, rfl, rfl, toNat_readTac _, ?div, rfl, rfl, ?tac⟩
  case div =>
    have h : s.timer.writeDiv = bumpIf (watched s.timer.tac s.timer.div16) { s.timer with div16 := 0#16 } := by
      rw [Timer.writeDiv, Timer.edgeFrom_eq_bumpIf, Timer.sig_eq_watched, watched_zero, Bool.not_false, Bool.and_true]
    rw [← h]
    rfl
  case tac =>
    have hv : v.extractLsb' 0 3 = BitVec.ofNat 3 (v.toNat % 8) := extractLsb_zero_eq_ofNat 3 v
    rw [← hv, ← Timer.sig_eq_watched s.timer]
    exact congrArg (fun x => { s with timer := x }) (Timer.edgeFrom_eq_bumpIf _ _)

/-! `n` T-cycles in closed form (R326, R327). -/

/-- The T-cycles between two counts of `TIMA`, by the select value (R321). -/
def countPeriod (sel : Nat) : Nat := if sel = 0 then 1024 else if sel = 1 then 16 else if sel = 2 then 64 else 256

theorem countPeriod_pos (sel : Nat) : 0 < countPeriod sel := by
  unfold countPeriod
  split_ifs <;> decide

/-- The watched signal falls where the divider reaches a multiple of the period. -/
theorem watched_falls (tac : BitVec 3) (div : Word) :
    (watched tac div && !watched tac (div + 1#16)) =
      (decide (4 ≤ tac.toNat) && decide ((div.toNat + 1) % countPeriod (tac.toNat % 4) = 0)) := by
  have hd := div.isLt
  have hsucc : (div + 1#16).toNat = (div.toNat + 1) % 65536 := BitVec.toNat_add div 1#16
  have hbit : (div.toNat / 2 ^ selectedBit (tac.toNat % 4) % 2 = 1 ∧
      ¬(div.toNat + 1) % 65536 / 2 ^ selectedBit (tac.toNat % 4) % 2 = 1) ↔
      (div.toNat + 1) % countPeriod (tac.toNat % 4) = 0 := by
    unfold selectedBit countPeriod
    split_ifs <;> norm_num <;> omega
  rw [Bool.eq_iff_iff]
  simp only [watched, hsucc, Bool.and_eq_true, Bool.not_eq_true', Bool.and_eq_false_iff, decide_eq_true_eq,
    decide_eq_false_iff_not, ← hbit]
  tauto

/-- One T-cycle (R326). -/
theorem Timer.tick_eq (t : Timer) :
    t.tick = bumpIf (decide (4 ≤ t.tac.toNat) && decide ((t.div16.toNat + 1) % countPeriod (t.tac.toNat % 4) = 0))
      { t with div16 := t.div16 + 1#16 } := by
  rw [Timer.tick, Timer.edgeFrom_eq_bumpIf, Timer.sig_eq_watched, ← watched_falls]

/-- The last T-cycle apart. -/
theorem Timer.cycle_succ (n : Nat) (t : Timer) : t.cycle (n + 1) = (t.cycle n).tick := by
  induction n generalizing t with
  | zero => rfl
  | succ n ih => exact ih t.tick

/-- `TIMA` once it has counted up to `total`: past 255 it goes on from `TMA` (R327). -/
def timaValue (tma total : Nat) : Nat := if total < 256 then total else tma + (total - 256) % (256 - tma)

/-- The Timer after `n` T-cycles in which `TIMA` counted `count` times (R326, R327). -/
def Timer.after (t : Timer) (n count : Nat) : Timer :=
  { t with
    div16 := BitVec.ofNat 16 (t.div16.toNat + n)
    tima := BitVec.ofNat 8 (timaValue t.tma.toNat (t.tima.toNat + count))
    intMask := if t.tima.toNat + count < 256 then t.intMask else t.intMask ||| 0b00100#5 }

/-- The counts of `TIMA` in `n` T-cycles: the multiples of the period that the divider passes. -/
def Timer.counts (t : Timer) (n : Nat) : Nat :=
  if 4 ≤ t.tac.toNat then
    (t.div16.toNat % countPeriod (t.tac.toNat % 4) + n) / countPeriod (t.tac.toNat % 4)
  else 0

theorem Timer.after_zero (t : Timer) : t.after 0 0 = t := by
  simp [Timer.after, timaValue, t.tima.isLt]

theorem Timer.counts_zero (t : Timer) : t.counts 0 = 0 := by
  simp [Timer.counts, Nat.div_eq_of_lt (Nat.mod_lt _ (countPeriod_pos _))]

theorem timaValue_lt {tma : Nat} (h : tma < 256) (total : Nat) : timaValue tma total < 256 := by
  have hlt := Nat.mod_lt (total - 256) (show 256 - tma > 0 by omega)
  unfold timaValue
  split <;> omega

/-- The next count: from 255 to `TMA`, so past the first overflow `TIMA` runs from `TMA` to 255 round and round. -/
theorem timaValue_succ {tma : Nat} (h : tma < 256) (total : Nat) :
    timaValue tma (total + 1) = if timaValue tma total = 255 then tma else timaValue tma total + 1 := by
  unfold timaValue
  rcases Nat.lt_trichotomy total 255 with ht | rfl | ht
  · simp (disch := omega) only [if_pos, if_neg]
  · simp
  · have hlt := Nat.mod_lt (total - 256) (show 256 - tma > 0 by omega)
    rw [if_neg (show ¬total + 1 < 256 by omega), if_neg (show ¬total < 256 by omega),
      show total + 1 - 256 = total - 256 + 1 by omega, ← Nat.mod_add_mod]
    generalize (total - 256) % (256 - tma) = r at hlt ⊢
    split <;> rename_i hr
    · rw [show r + 1 = 256 - tma by omega, Nat.mod_self, Nat.add_zero]
    · rw [Nat.mod_eq_of_lt (by omega), Nat.add_assoc]

/-- The count that leaves 255 is the one that overflows. -/
theorem timaValue_eq_max {tma total : Nat} (h : timaValue tma total = 255) : 255 ≤ total := by
  unfold timaValue at h
  split at h <;> omega

/-- Without an overflow `TIMA` passes 255 no more often than before. -/
theorem timaValue_ne_max {tma total : Nat} (h : timaValue tma total ≠ 255) : total + 1 < 256 ↔ total < 256 := by
  unfold timaValue at h
  split at h <;> omega

/-- One more T-cycle, and one more count if the watched signal falls in it. -/
theorem Timer.bumpIf_after (t : Timer) (n count : Nat) (fell : Bool) :
    bumpIf fell { t.after n count with div16 := BitVec.ofNat 16 (t.div16.toNat + (n + 1)) } =
      t.after (n + 1) (count + fell.toNat) := by
  cases fell with
  | false => rfl
  | true =>
    have hlt := timaValue_lt t.tma.isLt (t.tima.toNat + count)
    simp only [bumpIf, Timer.after, Bool.toNat_true, ← Nat.add_assoc, timaValue_succ t.tma.isLt,
      BitVec.toNat_ofNat, Nat.mod_eq_of_lt hlt, Bool.true_eq_false, if_false]
    by_cases hmax : timaValue t.tma.toNat (t.tima.toNat + count) = 255
    · have hge := timaValue_eq_max hmax
      rw [if_pos hmax, if_pos hmax, if_neg (show ¬t.tima.toNat + count + 1 < 256 by omega), BitVec.ofNat_toNat,
        BitVec.setWidth_eq]
      split
      · rfl
      · rw [BitVec.or_assoc, BitVec.or_self]
    · simp only [if_neg hmax, timaValue_ne_max hmax]

/-- One more T-cycle counts if it takes the divider to a multiple of the period, which divides 65536. -/
theorem Timer.counts_succ (t : Timer) (n : Nat) :
    t.counts (n + 1) = t.counts n + (decide (4 ≤ t.tac.toNat) &&
      decide (((t.div16.toNat + n) % 2 ^ 16 + 1) % countPeriod (t.tac.toNat % 4) = 0)).toNat := by
  have hdvd : countPeriod (t.tac.toNat % 4) ∣ t.div16.toNat % countPeriod (t.tac.toNat % 4) + n + 1 ↔
      ((t.div16.toNat + n) % 2 ^ 16 + 1) % countPeriod (t.tac.toNat % 4) = 0 := by
    unfold countPeriod
    split_ifs <;> omega
  unfold Timer.counts
  split <;> rename_i hen
  · simp only [← Nat.add_assoc, Nat.succ_div, hdvd, hen, decide_true, Bool.true_and]
    rw [← Bool.cond_decide, Bool.toNat]
  · simp [hen]

/-- The Timer after `n` T-cycles, by induction on them. -/
theorem Timer.cycle_eq_after (t : Timer) (n : Nat) : t.cycle n = t.after n (t.counts n) := by
  induction n with
  | zero => rw [Timer.counts_zero, Timer.after_zero]; rfl
  | succ n ih =>
    have hdiv : BitVec.ofNat 16 (t.div16.toNat + n) + 1#16 = BitVec.ofNat 16 (t.div16.toNat + (n + 1)) := by
      rw [← Nat.add_assoc, BitVec.ofNat_add (t.div16.toNat + n)]
    rw [Timer.cycle_succ, ih, Timer.tick_eq, Timer.counts_succ, ← Timer.bumpIf_after]
    exact congrArg (fun d => bumpIf _ { t.after n (t.counts n) with div16 := d }) hdiv

/-- Settles O43: the closed form, with the statement's names for the period and the counts. -/
theorem timerRate : Obligations.TimerRate := by
  unfold Obligations.TimerRate
  rintro t n period count total rfl rfl rfl
  exact t.cycle_eq_after n

end Sys2Proof.Machine
end

section
/-! Decoding a list of bytes (30_encoding.md R136, R137, R141): the decoder looks at no byte past the instruction's
length, so that an instruction decodes from its encoding whatever follows. -/

namespace Sys2Proof.Machine

open Sys2Proof

/-- Settles O4: each word, decoded. -/
theorem decodeWords : Obligations.DecodeWords := by
  unfold Obligations.DecodeWords
  decide

/-- The decoder reads no operand byte past the length. -/
theorem decodeWindow_congr {b0 b1 b2 c1 c2 : Byte} (h1 : 2 ≤ opLength b0 → b1 = c1) (h2 : 3 ≤ opLength b0 → b2 = c2) :
    decodeWindow b0 b1 b2 = decodeWindow b0 c1 c2 := by
  unfold opLength at h1 h2
  unfold decodeWindow
  cases hf : primary b0 <;> rw [hf] at h1 h2
  case byte f => rw [h1 (Nat.le_refl 2)]
  case word f => rw [h1 (Nat.le_succ 2), h2 (Nat.le_refl 3)]
  case extended => rw [h1 (Nat.le_refl 2)]

/-- Where enough bytes follow the opcode, the decoder reads the window. -/
theorem decode_cons {b0 : Byte} {rest : List Byte} (hlen : opLength b0 ≤ rest.length + 1)
    (hp : b0 = 0xCB#8 → rest ≠ []) : decode (b0 :: rest) = .ok (decodeWindow b0 (rest.getD 0 0#8) (rest.getD 1 0#8)) := by
  rw [decode, if_neg (fun ⟨hb, hr⟩ => hp hb hr), if_neg (Nat.not_lt.2 hlen)]

theorem opLength_cases (b0 : Byte) : opLength b0 = 1 ∨ opLength b0 = 2 ∨ opLength b0 = 3 := by
  unfold opLength
  cases primary b0 <;> simp

/-- Three bytes hold every instruction. -/
theorem decode_three (b0 b1 b2 : Byte) : decode [b0, b1, b2] = .ok (decodeWindow b0 b1 b2) := by
  have hlen := opLength_cases b0
  exact decode_cons (rest := [b1, b2]) (by simp only [List.length_cons, List.length_nil]; omega) nofun

/-- An instruction other than the byte 0xCB alone is what the decoder reads from a window of which its encoding is the
beginning. -/
theorem encode_eq_take {i : Instr} (hw : i.wellFormed = true) (hp : i ≠ .prefixCB) :
    ∃ b0 b1 b2, decodeWindow b0 b1 b2 = (i, opLength b0) ∧ encode i = [b0, b1, b2].take (opLength b0) := by
  have hi := decodeWindow_encode hw hp
  generalize (encode i).headD 0#8 = b0, (encode i).getD 1 0#8 = b1, (encode i).getD 2 0#8 = b2 at hi
  have hlen := decodeWindow_length b0 b1 b2
  refine ⟨b0, b1, b2, Prod.ext hi hlen, ?_⟩
  rw [← hi, ← hlen]
  exact (decodeWindow_encodes b0 b1 b2).bytes_eq

/-- Decoding a list that agrees with a window in the bytes of the instruction. -/
theorem decode_cons_of_window {b0 b1 b2 : Byte} {i : Instr} {rest : List Byte}
    (hd : decodeWindow b0 b1 b2 = (i, opLength b0)) (hlen : opLength b0 ≤ rest.length + 1)
    (h1 : 2 ≤ opLength b0 → rest.getD 0 0#8 = b1) (h2 : 3 ≤ opLength b0 → rest.getD 1 0#8 = b2) :
    decode (b0 :: rest) = .ok (i, opLength b0) := by
  have hp : b0 = 0xCB#8 → rest ≠ [] := by
    rintro rfl rfl
    exact absurd hlen (by decide)
  rw [decode_cons hlen hp, decodeWindow_congr h1 h2, hd]

/-- Decoding an encoding, by its length. -/
theorem decode_encode_append {i : Instr} (hw : i.wellFormed = true) (hp : i ≠ .prefixCB) (rest : List Byte) :
    decode (encode i ++ rest) = .ok (i, (encode i).length) := by
  obtain ⟨b0, b1, b2, hd, he⟩ := encode_eq_take hw hp
  rcases opLength_cases b0 with hlen | hlen | hlen
  · have he1 : encode i = [b0] := by rw [he, hlen]; rfl
    rw [he1, List.length_singleton, ← hlen]
    exact decode_cons_of_window hd (by omega) (by omega) (by omega)
  · have he2 : encode i = [b0, b1] := by rw [he, hlen]; rfl
    rw [he2, show [b0, b1].length = opLength b0 from hlen.symm]
    exact decode_cons_of_window hd (by simp [hlen]) (fun _ => rfl) (by omega)
  · have he3 : encode i = [b0, b1, b2] := by rw [he, hlen]; rfl
    rw [he3, show [b0, b1, b2].length = opLength b0 from hlen.symm]
    exact decode_cons_of_window hd (by simp [hlen]) (fun _ => rfl) (fun _ => rfl)

/-- Settles O5: the encoding decodes whatever follows it, and the byte 0xCB alone is the table's own row. -/
theorem decodeOfEncode : Obligations.DecodeOfEncode := by
  unfold Obligations.DecodeOfEncode
  exact ⟨fun i rest hw hp => decode_encode_append hw hp rest, by decide⟩

end Sys2Proof.Machine
end

section
/-! The branches of the CPU step (60_exceptions.md R280 to R285): an idle period and waking, interrupt dispatch, one
instruction, and `Fatal`, which only a reset leaves (46_system.md R268). -/

namespace Sys2Proof.Machine

open Sys2Proof

/-! The branches of a tick. -/

section Running
variable {s : State} (hm : s.cpu.mode = .running)
include hm

theorem cpuStep_running : cpuStep s = if s.cpu.ime ∧ pending s ≠ 0#5 then .next (dispatch s) else execute s := by
  have hw : wake s = s := by simp only [wake, hm]
  simp only [cpuStep, hw, afterWake, hm]

/-- A running CPU with an interrupt to take takes it (R281). -/
theorem tick_dispatch (hi : s.cpu.ime = true) (hp : pending s ≠ 0#5) : tick s = .next (busCycle 20 (dispatch s)) := by
  have hd : (dispatch s).cpu.cycles = 20 := rfl
  have hne : s.cpu.mode ≠ .fatal := by rw [hm]; decide
  rw [tick, if_neg hne, cpuStep_running hm, if_pos ⟨hi, hp⟩]
  simp only [hd]

/-- A running CPU with none executes the instruction fetched, then a delayed `EI` takes effect (R280, R282). -/
theorem tick_execute (hi : s.cpu.ime = false ∨ pending s = 0#5) {t : State}
    (ht : exec (fetched s).1 (advance s (fetched s).2) = .next t) :
    tick s = .next (busCycle (armInterrupts s.cpu.eiPending t).cpu.cycles (armInterrupts s.cpu.eiPending t)) := by
  have hne : s.cpu.mode ≠ .fatal := by rw [hm]; decide
  have hno : ¬(s.cpu.ime = true ∧ pending s ≠ 0#5) := by
    rintro ⟨h1, h2⟩
    rcases hi with h | h
    · exact absurd (h1.symm.trans h) (by decide)
    · exact h2 h
  rw [tick, if_neg hne, cpuStep_running hm, if_neg hno, execute, ht]

end Running

/-- A suspended CPU whose wake-up condition does not hold idles for 4 T-cycles (R283, R284). -/
theorem tick_idle {s : State} (hm : s.cpu.mode = .halted ∨ s.cpu.mode = .stopped) (hw : wake s = s) :
    tick s = .next (busCycle 4 (s.setCpu { s.cpu with cycles := 4 })) := by
  have hidle : cpuStep s = .next (s.spend 4) := by rcases hm with hm | hm <;> simp only [cpuStep, hw, afterWake, hm]
  have hne : s.cpu.mode ≠ .fatal := by rcases hm with hm | hm <;> rw [hm] <;> decide
  rw [tick, if_neg hne, hidle]
  rfl

/-- Waking is a step of the running CPU (R283, R284). -/
theorem tick_wake {s : State} (hm : s.cpu.mode ≠ .fatal) (hw : wake s = s.setCpu { s.cpu with mode := .running }) :
    tick s = tick (s.setCpu { s.cpu with mode := .running }) := by
  have hrun : cpuStep s = cpuStep (s.setCpu { s.cpu with mode := .running }) := by
    rw [cpuStep, cpuStep, hw]
    rfl
  have hne : (s.setCpu { s.cpu with mode := .running }).cpu.mode ≠ .fatal := nofun
  rw [tick, tick, if_neg hm, if_neg hne, hrun]

/-- Settles O12: in each suspended mode the wake-up condition holds or not. -/
theorem suspendedStep : Obligations.SuspendedStep := by
  unfold Obligations.SuspendedStep
  intro s
  unfold step
  generalize deliver s = d
  refine ⟨fun hm => ⟨fun hp => ?_, fun hp => ?_⟩, fun hm => ⟨fun hp => ?_, fun hp => ?_⟩⟩
  · exact tick_idle (.inl hm) (by simp only [wake, hm, pending, hp, if_true])
  · exact tick_wake (by simp [hm]) (by simp only [wake, hm, pending, hp, if_false])
  · exact tick_idle (.inr hm) (by simp only [wake, hm, hp, Bool.false_eq_true, if_false])
  · exact tick_wake (by simp [hm]) (by simp only [wake, hm, hp, if_true])

/-! Interrupt dispatch (R281, R285, R287). -/

/-- A source is pending if it is enabled and requested (10_state.md R34). -/
theorem pending_getLsbD (s : State) {i : Nat} (hi : i < 5) :
    (pending s).getLsbD i = (s.bus.ie.getLsbD i && s.bus.ifReg.getLsbD i) := by
  simp [pending, hi]

/-- The least bit of a set of sources is its first source (R287). -/
theorem firstSource_eq {p : BitVec 5} {i : Nat} (hi : i < 5) (hp : p.getLsbD i = true)
    (hleast : ∀ j, j < i → p.getLsbD j = false) : firstSource p = i := by
  have hall : ∀ (p : BitVec 5) (i : Fin 5), p.getLsbD i = true →
      (∀ j : Fin 5, j < i → p.getLsbD j = false) → firstSource p = i := by decide
  exact hall p ⟨i, hi⟩ hp fun j hj => hleast j hj

/-- Clearing one request (R281). -/
theorem getLsbD_clearBit (r : BitVec 5) (i k : Nat) :
    (r &&& ~~~(1#5 <<< i)).getLsbD k = (r.getLsbD k && decide (k ≠ i)) := by
  by_cases hk : k < 5
  · have hbit : (1#5 <<< i).getLsbD k = decide (k = i) := by
      simp only [BitVec.getLsbD_shiftLeft, BitVec.getLsbD_one, hk, decide_true, Bool.true_and]
      rw [Bool.eq_iff_iff]
      simp
      omega
    rw [BitVec.getLsbD_and, BitVec.getLsbD_not, hbit]
    simp [hk]
  · simp [BitVec.getLsbD_of_ge _ k (Nat.le_of_not_lt hk)]

/-- Taking an interrupt, with the byte stores of its push apart (R281). -/
theorem takeInterrupt_eq (s : State) (i : Nat) :
    takeInterrupt s i = ((pushedBytes s s.cpu.pc).setIf ((pushedBytes s s.cpu.pc).bus.ifReg &&& ~~~(1#5 <<< i))).setCpu
      { s.cpu with sp := s.cpu.sp - 2#16, pc := vector i, ime := false, eiPending := false, cycles := 20 } := by
  rw [takeInterrupt, push16_eq, write16_eq_pushedBytes]
  rfl

/-- Settles O11: the least enabled request is the source dispatched. -/
theorem interruptDispatch : Obligations.InterruptDispatch := by
  unfold Obligations.InterruptDispatch step
  intro s i
  generalize deliver s = d
  intro hm hime hi hreq hleast
  have hbit : (pending d).getLsbD i = true := (pending_getLsbD d hi).trans hreq
  have hfirst : firstSource (pending d) = i :=
    firstSource_eq hi hbit fun j hj => (pending_getLsbD d (Nat.lt_trans hj hi)).trans (hleast j hj)
  have hp : pending d ≠ 0#5 := by
    intro h
    rw [h] at hbit
    exact absurd hbit (by simp)
  refine ⟨pushedBytes d d.cpu.pc, takeInterrupt d i, rfl, ?_, ?_, ?_, ?_, ?_⟩
  · rw [takeInterrupt_eq]
    rfl
  · rw [takeInterrupt_eq]
    exact getLsbD_clearBit _ i
  · rw [takeInterrupt_eq]
    rfl
  · rw [takeInterrupt_eq]
    rfl
  · rw [tick_dispatch hm hime hp, dispatch, hfirst]

/-! One instruction (R280, R282). -/

/-- Settles O8: the fetch decodes the same three bytes, and the delayed `EI` is the statement's. -/
theorem stepRunsDecoded : Obligations.StepRunsDecoded := by
  unfold Obligations.StepRunsDecoded step
  intro s i n
  generalize deliver s = d
  intro hm hi hdec
  have hf : fetched d = (i, n) := by
    rw [decode_three] at hdec
    injection hdec
  obtain ⟨t, ht, -⟩ := exec_effect i (advance d n)
  refine ⟨t, armInterrupts d.cpu.eiPending t, ht, ?_, tick_execute hm hi (by rw [hf]; exact ht)⟩
  unfold armInterrupts
  congr 1
  exact propext ⟨fun ⟨h1, h2, h3⟩ => ⟨h2, h3, h1⟩, fun ⟨h1, h2, h3⟩ => ⟨h3, h1, h2⟩⟩

/-! `Fatal` (R138, R268). -/

theorem undefinedBytes_iff (b : Byte) : undefinedBytes.contains b = true ↔
    b = 0xD3#8 ∨ b = 0xDB#8 ∨ b = 0xDD#8 ∨ b = 0xE3#8 ∨ b = 0xE4#8 ∨ b = 0xEB#8 ∨ b = 0xEC#8 ∨
      b = 0xED#8 ∨ b = 0xF4#8 ∨ b = 0xFC#8 ∨ b = 0xFD#8 := by
  rw [List.contains_iff_mem]
  simp only [undefinedBytes, List.mem_cons, List.not_mem_nil, or_false]

/-- The unassigned bytes are those the decoder answers `UNDEFINED` for. -/
theorem decodeWindow_undefined_iff (b0 b1 b2 : Byte) :
    decodeWindow b0 b1 b2 = (.undefined b0, 1) ↔ undefinedBytes.contains b0 = true := by
  constructor
  · intro h
    have hw := (decodeWindow_encodes b0 b1 b2).wellFormed
    rwa [h] at hw
  · rw [undefinedBytes_iff]
    rintro (rfl | rfl | rfl | rfl | rfl | rfl | rfl | rfl | rfl | rfl | rfl) <;> rfl

/-- A tick that meets an unassigned byte: the exception, and no device advances. -/
theorem tick_undefined {s : State} (hm : s.cpu.mode = .running) (hi : s.cpu.ime = false ∨ pending s = 0#5)
    (hb : undefinedBytes.contains (read8 s s.cpu.pc) = true) :
    tick s = .next (aggregate (raiseFatal (advance s 1) (read8 s s.cpu.pc))) := by
  have hf : fetched s = (.undefined (read8 s s.cpu.pc), 1) := (decodeWindow_undefined_iff _ _ _).2 hb
  have hx : exec (fetched s).1 (advance s (fetched s).2) = .next (raiseFatal (advance s 1) (read8 s s.cpu.pc)) := by
    rw [hf]
    rfl
  have ha : armInterrupts s.cpu.eiPending (raiseFatal (advance s 1) (read8 s s.cpu.pc)) =
      raiseFatal (advance s 1) (read8 s s.cpu.pc) := if_neg fun h => h.1 rfl
  rw [tick_execute hm hi hx, ha]
  rfl

theorem tick_fatal {s : State} (hm : s.cpu.mode = .fatal) : tick s = .next s := if_pos hm

/-- Events other than a reset reach none of these owners. -/
theorem applyEvent_frame {s : State} {e : HostEvent} (he : e ≠ .reset) :
    (applyEvent s e).cpu = s.cpu ∧ (applyEvent s e).bus = s.bus ∧ (applyEvent s e).timer = s.timer ∧
      (applyEvent s e).apu = s.apu := by
  cases e with
  | reset => exact absurd rfl he
  | buttons | setRam | consumeDirty | takeFrame | sinkDepth => exact ⟨rfl, rfl, rfl, rfl⟩

theorem applyEvents_frame {es : List HostEvent} (he : HostEvent.reset ∉ es) (s : State) :
    (applyEvents es s).cpu = s.cpu ∧ (applyEvents es s).bus = s.bus ∧ (applyEvents es s).timer = s.timer ∧
      (applyEvents es s).apu = s.apu := by
  induction es generalizing s with
  | nil => exact ⟨rfl, rfl, rfl, rfl⟩
  | cons e es ih =>
    obtain ⟨h1, h2, h3, h4⟩ := applyEvent_frame (s := s) fun h => he (h ▸ List.mem_cons_self ..)
    obtain ⟨i1, i2, i3, i4⟩ := ih (fun h => he (List.mem_cons_of_mem _ h)) (applyEvent s e)
    exact ⟨i1.trans h1, i2.trans h2, i3.trans h3, i4.trans h4⟩

theorem deliver_frame {s : State} (h : ∀ events rest, s.inputs = events :: rest → HostEvent.reset ∉ events) :
    (deliver s).cpu = s.cpu ∧ (deliver s).bus = s.bus ∧ (deliver s).timer = s.timer ∧ (deliver s).apu = s.apu := by
  unfold deliver
  split
  · exact ⟨rfl, rfl, rfl, rfl⟩
  · next events rest hq => exact applyEvents_frame (h events rest hq) { s with inputs := rest }

/-- No event stops a running CPU, and a reset makes it run (R40). -/
theorem applyEvents_running {es : List HostEvent} {s : State} (h : s.cpu.mode = .running ∨ HostEvent.reset ∈ es) :
    (applyEvents es s).cpu.mode = .running := by
  induction es generalizing s with
  | nil => exact h.resolve_right (by simp)
  | cons e es ih =>
    refine ih ?_
    by_cases he : e = .reset
    · exact .inl (by rw [he]; rfl)
    · rw [(applyEvent_frame he).1]
      exact h.imp_right fun hmem => (List.mem_cons.1 hmem).resolve_left (Ne.symm he)

/-- Settles O13: the exception is one write of the CPU, and only a reset among the events leaves `Fatal`. -/
theorem fatalDecode : Obligations.FatalDecode := by
  unfold Obligations.FatalDecode step
  refine ⟨fun b0 b1 b2 => ?bytes, fun op s => rfl, fun s hm hi hb => ?step, fun s hm => tick_fatal hm,
    fun s hm hr => ?stays, fun s events rest hq hr => ?leaves⟩
  case bytes => rw [decodeWindow_undefined_iff, undefinedBytes_iff]
  case step =>
    refine ⟨_, tick_undefined hm hi hb, ?_, rfl, rfl, rfl, rfl, rfl, rfl⟩
    have hpc : (deliver s).cpu.pc + 1#16 - 1#16 = (deliver s).cpu.pc := BitVec.add_sub_cancel _ _
    simp [aggregate, raiseFatal, advance, hpc]
  case stays =>
    obtain ⟨hcpu, hbus, htimer, hapu⟩ := deliver_frame hr
    exact ⟨deliver s, tick_fatal (by rw [hcpu, hm]), hcpu, hbus, htimer, hapu⟩
  case leaves =>
    unfold deliver
    rw [hq]
    exact applyEvents_running (.inr hr)

end Sys2Proof.Machine
end

section
/-! What a byte store, the end of a tick and a whole step can do to each owner of state (10_state.md R38), said once: an
invariant of one owner is then a statement about that owner's own operations. -/

namespace Sys2Proof.Machine

open Sys2Proof

/-! A byte store, by where its address is routed (20_memory.md R63, R70). -/

/-- What storing the byte `v` can make of the state `s`. -/
inductive StoreEffect (s : State) (v : Byte) : State → Prop where
  | nothing : StoreEffect s v s
  | cartRegister (a : Nat) : StoreEffect s v { s with cart := s.cart.write a v }
  | extRam (a : Nat) : StoreEffect s v { s with cart := s.cart.writeRam a v }
  | vram (k : Nat) : StoreEffect s v { s with ppu := s.ppu.writeVram k v }
  | oam (k : Nat) : StoreEffect s v { s with ppu := s.ppu.writeOam k v }
  | wram (k : Nat) : StoreEffect s v { s with bus := { s.bus with wram := s.bus.wram.write k v } }
  | hram (k : Nat) : StoreEffect s v { s with bus := { s.bus with hram := s.bus.hram.write k v } }
  | enable : StoreEffect s v { s with bus := { s.bus with ie := v } }
  | request : StoreEffect s v { s with bus := { s.bus with ifReg := v.extractLsb' 0 5 } }
  | joypad : StoreEffect s v { s with joypad := s.joypad.write v }
  | timer (k : Nat) : StoreEffect s v { s with timer := s.timer.write k v }
  | sound (k : Nat) : StoreEffect s v { s with apu := s.apu.write k v }
  | video (k : Nat) : StoreEffect s v { s with ppu := s.ppu.write k v }
  | dma (r : Ram) (hr : Memory.wf s.ppu.oam.cells → Memory.wf r.cells) :
      StoreEffect s v { s with bus := { s.bus with dmaReg := v }, ppu := { s.ppu with oam := r } }

/-- The DMA copy keeps OAM's canonical form. -/
theorem dmaCopy_wf (n i : Nat) (base : Word) {s : State} (h : Memory.wf s.ppu.oam.cells) :
    Memory.wf (dmaCopy n i base s).ppu.oam.cells := by
  induction n generalizing i s with
  | zero => exact h
  | succ n ih => exact ih (i + 1) (Memory.wf_put h i _)

theorem oamDma_storeEffect (s : State) (v : Byte) : StoreEffect s v (oamDma s v) := by
  have hwf := dmaCopy_wf 160 0 (v ++ 0x00#8) (s := { s with bus := { s.bus with dmaReg := v } })
  obtain ⟨r, hr⟩ := oamDma_eq s v
  have hd : dmaCopy 160 0 (v ++ 0x00#8) { s with bus := { s.bus with dmaReg := v } } = oamDma s v := rfl
  rw [hd, hr] at hwf
  rw [hr]
  exact .dma r hwf

theorem write8_storeEffect (s : State) (a : Word) (v : Byte) : StoreEffect s v (write8 s a v) := by
  unfold write8
  cases route a with
  | rom a => exact .cartRegister a
  | vram k => exact .vram k
  | ext a => exact .extRam a
  | wram k => exact .wram k
  | oam k => exact .oam k
  | unusable => exact .nothing
  | hram k => exact .hram k
  | ie => exact .enable
  | io k =>
    simp only [writePort]
    cases port k with
    | joypad => exact .joypad
    | timer j => exact .timer j
    | intFlag => exact .request
    | sound j => exact .sound j
    | video j => exact .video j
    | dma => exact oamDma_storeEffect s v
    | unmapped => exact .nothing

section ByOwner
variable {s t : State} {v : Byte} (h : StoreEffect s v t)
include h

theorem StoreEffect.timer_eq : t.timer = s.timer ∨ ∃ k, t.timer = s.timer.write k v := by
  cases h with
  | timer k => exact .inr ⟨k, rfl⟩
  | _ => exact .inl rfl

theorem StoreEffect.joypad_eq : t.joypad = s.joypad ∨ t.joypad = s.joypad.write v := by
  cases h with
  | joypad => exact .inr rfl
  | _ => exact .inl rfl

theorem StoreEffect.apu_eq : t.apu = s.apu ∨ ∃ k, t.apu = s.apu.write k v := by
  cases h with
  | sound k => exact .inr ⟨k, rfl⟩
  | _ => exact .inl rfl

theorem StoreEffect.cart_eq :
    t.cart = s.cart ∨ (∃ a, t.cart = s.cart.write a v) ∨ ∃ a, t.cart = s.cart.writeRam a v := by
  cases h with
  | cartRegister a => exact .inr (.inl ⟨a, rfl⟩)
  | extRam a => exact .inr (.inr ⟨a, rfl⟩)
  | _ => exact .inl rfl

/-- A register write, or new contents of VRAM or OAM in canonical form. -/
theorem StoreEffect.ppu_eq : (∃ k, t.ppu = s.ppu.write k v) ∨ ∃ vram oam : Ram,
    (Memory.wf s.ppu.vram.cells → Memory.wf vram.cells) ∧ (Memory.wf s.ppu.oam.cells → Memory.wf oam.cells) ∧
      t.ppu = { s.ppu with vram := vram, oam := oam } := by
  cases h with
  | video k => exact .inl ⟨k, rfl⟩
  | dma r hr => exact .inr ⟨s.ppu.vram, r, id, hr, rfl⟩
  | vram k =>
    right
    simp only [Ppu.writeVram]
    split
    · exact ⟨s.ppu.vram.write k v, s.ppu.oam, fun hw => Memory.wf_put hw k v, id, rfl⟩
    · exact ⟨s.ppu.vram, s.ppu.oam, id, id, rfl⟩
  | oam k =>
    right
    simp only [Ppu.writeOam]
    split
    · exact ⟨s.ppu.vram, s.ppu.oam.write k v, id, fun hw => Memory.wf_put hw k v, rfl⟩
    · exact ⟨s.ppu.vram, s.ppu.oam, id, id, rfl⟩
  | _ => exact .inr ⟨s.ppu.vram, s.ppu.oam, id, id, rfl⟩

theorem StoreEffect.bus_wf (hw : Memory.wf s.bus.wram.cells ∧ Memory.wf s.bus.hram.cells) :
    Memory.wf t.bus.wram.cells ∧ Memory.wf t.bus.hram.cells := by
  cases h with
  | wram k => exact ⟨Memory.wf_put hw.1 k v, hw.2⟩
  | hram k => exact ⟨hw.1, Memory.wf_put hw.2 k v⟩
  | _ => exact hw

end ByOwner

/-! The end of a tick (R90, R91): no T-cycles are none of the devices' either. -/

theorem busCycle_timer (n : Nat) (s : State) : (busCycle n s).timer = { s.timer.cycle n with intMask := 0#5 } := by
  cases n <;> rfl

theorem Ppu.cycle_zero (p : Ppu) : p.cycle 0 = p := ite_self p

theorem busCycle_ppu (n : Nat) (s : State) : (busCycle n s).ppu = { s.ppu.cycle n with intMask := 0#5 } := by
  cases n with
  | zero => rw [Ppu.cycle_zero]; rfl
  | succ n => rfl

theorem busCycle_joypad (n : Nat) (s : State) : (busCycle n s).joypad = { s.joypad with intMask := 0#5 } := by
  cases n <;> rfl

theorem busCycle_apu (n : Nat) (s : State) :
    (busCycle n s).apu = s.apu ∨ (busCycle n s).apu = s.apu.cycle Config.audio s.sinkPending n := by
  cases n with
  | zero => exact .inl rfl
  | succ n => exact .inr rfl

theorem busCycle_cart (n : Nat) (s : State) : (busCycle n s).cart = s.cart := by
  cases n <;> rfl

theorem busCycle_cpu (n : Nat) (s : State) : (busCycle n s).cpu = s.cpu := by
  cases n <;> rfl

/-- `IF` gains the devices' requests (R91), and nothing else of the bus changes. -/
theorem busCycle_bus (n : Nat) (s : State) : (busCycle n s).bus = { s.bus with
    ifReg := s.bus.ifReg ||| (s.timer.cycle n).intMask ||| (s.ppu.cycle n).intMask ||| s.joypad.intMask } := by
  cases n with
  | zero => rw [Ppu.cycle_zero]; rfl
  | succ n => rfl

/-! A step, by owner: what the owner's own operations keep, every step keeps. -/

section StepByOwner
variable {s t : State} (h : step s = .next t)
include h

theorem step_timer_invariant (P : Timer → Prop) (hreset : P Timer.reset) (hwrite : ∀ x k v, P x → P (x.write k v))
    (htick : ∀ x n, P x → P { x.cycle n with intMask := 0#5 }) (hs : P s.timer) : P t.timer := by
  refine step_invariant (fun s => P s.timer) ?_ ?_ (fun _ _ hs => hs) (fun _ _ hs => hs) ?_ hs h
  · refine fun s => deliver_invariant (fun s => P s.timer) (fun s e hs => ?_) (fun _ _ hs => hs)
    cases e with
    | reset => exact hreset
    | _ => exact hs
  · intro s a v hs
    obtain he | ⟨k, he⟩ := (write8_storeEffect s a v).timer_eq <;> rw [he]
    · exact hs
    · exact hwrite _ k v hs
  · intro s n _ hs
    rw [busCycle_timer]
    exact htick _ n hs

theorem step_joypad_invariant (P : Joypad → Prop) (hreset : P Joypad.reset) (hwrite : ∀ x v, P x → P (x.write v))
    (hbuttons : ∀ x b, P x → P (x.setButtons b)) (htick : ∀ x : Joypad, P x → P { x with intMask := 0#5 })
    (hs : P s.joypad) : P t.joypad := by
  refine step_invariant (fun s => P s.joypad) ?_ ?_ (fun _ _ hs => hs) (fun _ _ hs => hs) ?_ hs h
  · refine fun s => deliver_invariant (fun s => P s.joypad) (fun s e hs => ?_) (fun _ _ hs => hs)
    cases e with
    | reset => exact hreset
    | buttons b => exact hbuttons _ b hs
    | _ => exact hs
  · intro s a v hs
    obtain he | he := (write8_storeEffect s a v).joypad_eq <;> rw [he]
    · exact hs
    · exact hwrite _ v hs
  · intro s n _ hs
    rw [busCycle_joypad]
    exact htick _ hs

theorem step_ppu_invariant (P : Ppu → Prop) (hreset : ∀ epoch, P (Ppu.reset epoch))
    (hframe : ∀ x : Ppu, P x → P { x with frameReady := false }) (hwrite : ∀ x k v, P x → P (x.write k v))
    (hmem : ∀ (x : Ppu) (vram oam : Ram), (Memory.wf x.vram.cells → Memory.wf vram.cells) →
      (Memory.wf x.oam.cells → Memory.wf oam.cells) → P x → P { x with vram := vram, oam := oam })
    (htick : ∀ x n, P x → P { x.cycle n with intMask := 0#5 }) (hs : P s.ppu) : P t.ppu := by
  refine step_invariant (fun s => P s.ppu) ?_ ?_ (fun _ _ hs => hs) (fun _ _ hs => hs) ?_ hs h
  · refine fun s => deliver_invariant (fun s => P s.ppu) (fun s e hs => ?_) (fun _ _ hs => hs)
    cases e with
    | reset => exact hreset _
    | takeFrame => exact hframe _ hs
    | _ => exact hs
  · intro s a v hs
    obtain ⟨k, he⟩ | ⟨vram, oam, hv, ho, he⟩ := (write8_storeEffect s a v).ppu_eq <;> rw [he]
    · exact hwrite _ k v hs
    · exact hmem _ vram oam hv ho hs
  · intro s n _ hs
    rw [busCycle_ppu]
    exact htick _ n hs

theorem step_apu_invariant (P : Apu → Prop) (hreset : ∀ x epoch, P x → P { Apu.reset epoch with pushed := x.pushed })
    (hwrite : ∀ x k v, P x → P (x.write k v)) (hcycle : ∀ x depth n, n ≤ 24 → P x → P (x.cycle Config.audio depth n))
    (hs : P s.apu) : P t.apu := by
  refine step_invariant (fun s => P s.apu) ?_ ?_ (fun _ _ hs => hs) (fun _ _ hs => hs) ?_ hs h
  · refine fun s => deliver_invariant (fun s => P s.apu) (fun s e hs => ?_) (fun _ _ hs => hs)
    cases e with
    | reset => exact hreset _ _ hs
    | _ => exact hs
  · intro s a v hs
    obtain he | ⟨k, he⟩ := (write8_storeEffect s a v).apu_eq <;> rw [he]
    · exact hs
    · exact hwrite _ k v hs
  · intro s n hn hs
    obtain he | he := busCycle_apu n s <;> rw [he]
    · exact hs
    · exact hcycle _ _ n hn hs

theorem step_cart_invariant (P : Cart → Prop) (hreset : ∀ x, P x → P x.reset) (hdump : ∀ x data, P x → P (x.setRam data))
    (hdirty : ∀ x, P x → P x.consumeDirty) (hwrite : ∀ x a v, P x → P (x.write a v))
    (hram : ∀ x a v, P x → P (x.writeRam a v)) (hs : P s.cart) : P t.cart := by
  refine step_invariant (fun s => P s.cart) ?_ ?_ (fun _ _ hs => hs) (fun _ _ hs => hs) ?_ hs h
  · refine fun s => deliver_invariant (fun s => P s.cart) (fun s e hs => ?_) (fun _ _ hs => hs)
    cases e with
    | reset => exact hreset _ hs
    | setRam data => exact hdump _ data hs
    | consumeDirty => exact hdirty _ hs
    | _ => exact hs
  · intro s a v hs
    obtain he | ⟨k, he⟩ | ⟨k, he⟩ := (write8_storeEffect s a v).cart_eq <;> rw [he]
    · exact hs
    · exact hwrite _ k v hs
    · exact hram _ k v hs
  · intro s n _ hs
    rw [busCycle_cart]
    exact hs

theorem step_bus_wf (hs : Memory.wf s.bus.wram.cells ∧ Memory.wf s.bus.hram.cells) :
    Memory.wf t.bus.wram.cells ∧ Memory.wf t.bus.hram.cells := by
  refine step_invariant (fun s => Memory.wf s.bus.wram.cells ∧ Memory.wf s.bus.hram.cells) ?_ ?_ (fun _ _ hs => hs)
    (fun _ _ hs => hs) ?_ hs h
  · refine fun s => deliver_invariant (fun s => Memory.wf s.bus.wram.cells ∧ Memory.wf s.bus.hram.cells)
      (fun s e hs => ?_) (fun _ _ hs => hs)
    cases e with
    | reset => exact ⟨List.Pairwise.nil, List.Pairwise.nil⟩
    | _ => exact hs
  · exact fun s a v hs => (write8_storeEffect s a v).bus_wf hs
  · intro s n _ hs
    rw [busCycle_bus]
    exact hs

end StepByOwner

/-- Settles O54: the CPU's part of a step keeps the flags clean, a reset's are clean, and the devices leave them. -/
theorem flagsStayClean : Obligations.FlagsStayClean := by
  unfold Obligations.FlagsStayClean step
  intro s t hs h
  have hd : (deliver s).cpu.FlagsClean := by
    refine deliver_invariant (fun t => t.cpu.FlagsClean) (fun t e ht => ?_) (fun _ _ ht => ht) hs
    cases e with
    | reset => exact (show 0xB0#8 &&& 0x0F#8 = 0#8 from rfl)
    | _ => exact ht
  rcases tick_effect (deliver s) with ⟨-, ht⟩ | ⟨-, u, ⟨ws, r, c, -, rfl, -, hf⟩, ht⟩ <;> rw [ht] at h <;>
    injection h with h <;> subst h
  · exact hd
  · rw [Cpu.FlagsClean, busCycle_cpu]
    exact hf hd

end Sys2Proof.Machine
end

section
/-! The PPU (62_ppu.md): what one dot can do (R350), said once; its registers on the bus (R342 to R346); its position in
the frame (R351); and that every step keeps its line, dot, mode and `lyc_flag` consistent (R353). -/

namespace Sys2Proof.Machine

open Sys2Proof

/-! One dot (R350). -/

/-- A mask with requests of the PPU's two sources added (R350, R354). -/
def PpuRaised (m m' : BitVec 5) : Prop := ∃ b : BitVec 2, m' = m ||| b.setWidth 5

theorem PpuRaised.refl (m : BitVec 5) : PpuRaised m m := ⟨0#2, (BitVec.or_zero).symm⟩

theorem PpuRaised.or {m m' : BitVec 5} (h : PpuRaised m m') (b : BitVec 2) : PpuRaised m (m' ||| b.setWidth 5) := by
  obtain ⟨c, rfl⟩ := h
  exact ⟨c ||| b, by rw [BitVec.setWidth_or, BitVec.or_assoc]⟩

theorem PpuRaised.getLsbD {m m' : BitVec 5} (h : PpuRaised m m') {k : Nat} (hk : m.getLsbD k = true) :
    m'.getLsbD k = true := by
  obtain ⟨b, rfl⟩ := h
  rw [BitVec.getLsbD_or, hk, Bool.true_or]

/-- A STAT request, if the select bit is set (R354). -/
theorem Ppu.raiseStatIf_eq (p : Ppu) (k : Nat) :
    ∃ m, PpuRaised p.intMask m ∧ p.raiseStatIf k = { p with intMask := m } := by
  unfold Ppu.raiseStatIf
  split
  · exact ⟨_, (PpuRaised.refl _).or 2#2, rfl⟩
  · exact ⟨_, PpuRaised.refl _, rfl⟩

/-- The comparison with LYC (R353). -/
theorem Ppu.compareLyc_eq (p : Ppu) : ∃ m, PpuRaised p.intMask m ∧
    p.compareLyc = { p with lycFlag := decide (p.ly = p.lyc.toNat), intMask := m } := by
  unfold Ppu.compareLyc
  split
  · exact p.withLycFlag.raiseStatIf_eq 3
  · exact ⟨_, PpuRaised.refl _, rfl⟩

/-- The mode of a line start: the lines 145 to 153 keep theirs (R350). -/
def Ppu.lineMode (p : Ppu) : PpuMode :=
  if p.ly = 144 then .vblank else if p.ly < 144 then .oamScan else p.mode

/-- A line start (R350): line 144 requests V-blank and announces the frame. -/
theorem Ppu.enterLine_eq (p : Ppu) : ∃ m f, PpuRaised p.intMask m ∧ (p.frameReady = true → f = true) ∧
    (p.ly = 144 → m.getLsbD 0 = true ∧ f = true) ∧
    p.enterLine = { p with mode := p.lineMode, intMask := m, frameReady := f } := by
  unfold Ppu.enterLine Ppu.lineMode
  split
  · next hl =>
    obtain ⟨m, hm, he⟩ := Ppu.raiseStatIf_eq { p with mode := .vblank, intMask := p.intMask ||| 0b00001#5 } 1
    have hv : (p.intMask ||| 0b00001#5).getLsbD 0 = true := by simp
    have hall : PpuRaised p.intMask m := by
      obtain ⟨b, rfl⟩ := hm
      exact ((PpuRaised.refl p.intMask).or 1#2).or b
    exact ⟨m, true, hall, fun _ => rfl, fun _ => ⟨hm.getLsbD hv, rfl⟩, by rw [he]⟩
  · next hl =>
    split
    · obtain ⟨m, hm, he⟩ := Ppu.raiseStatIf_eq { p with mode := .oamScan } 2
      exact ⟨m, p.frameReady, hm, id, fun h => absurd h hl, he⟩
    · exact ⟨p.intMask, p.frameReady, PpuRaised.refl _, id, fun h => absurd h hl, rfl⟩

/-- What one dot makes of the PPU `p`: the end of the OAM scan, the end of pixel transfer, which draws the line, the end
of the line, or no more than the next dot. -/
inductive DotEffect (p : Ppu) : Ppu → Prop where
  | scanned (hm : p.mode = .oamScan) (hd : p.dot + 1 = 80) :
      DotEffect p { p with dot := p.dot + 1, mode := .pixelTransfer }
  | drawn (hm : p.mode = .pixelTransfer) (hd : p.dot + 1 = 252) (m : BitVec 5) (hr : PpuRaised p.intMask m) :
      DotEffect p { Ppu.renderLine { p with dot := p.dot + 1, mode := .hblank } with intMask := m }
  | nextLine (hd : p.dot + 1 = 456) (m : BitVec 5) (f : Bool) (hr : PpuRaised p.intMask m)
      (hf : p.frameReady = true → f = true) (hv : (p.ly + 1) % 154 = 144 → m.getLsbD 0 = true ∧ f = true) :
      DotEffect p { p with
        dot := 0, ly := (p.ly + 1) % 154, mode := Ppu.lineMode { p with ly := (p.ly + 1) % 154 },
        lycFlag := decide ((p.ly + 1) % 154 = p.lyc.toNat), intMask := m, frameReady := f }
  | moved (hs : ¬(p.mode = .oamScan ∧ p.dot + 1 = 80)) (ht : ¬(p.mode = .pixelTransfer ∧ p.dot + 1 = 252))
      (hd : ¬p.dot + 1 = 456) : DotEffect p { p with dot := p.dot + 1 }

theorem Ppu.tick_dotEffect (p : Ppu) : DotEffect p p.tick := by
  unfold Ppu.tick
  split
  · next h => exact .scanned h.1 h.2
  next hs =>
  split
  · next h =>
    obtain ⟨m, hr, he⟩ := (Ppu.renderLine { p with dot := p.dot + 1, mode := .hblank }).raiseStatIf_eq 0
    rw [he]
    exact .drawn h.1 h.2 m hr
  next ht =>
  split
  · next hd =>
    obtain ⟨m, f, hr, hf, hv, he⟩ := Ppu.enterLine_eq { p with dot := 0, ly := (p.ly + 1) % 154 }
    rw [he]
    obtain ⟨m', hr', he'⟩ :=
      Ppu.compareLyc_eq { p with
        dot := 0, ly := (p.ly + 1) % 154, mode := Ppu.lineMode { p with ly := (p.ly + 1) % 154 }, intMask := m,
        frameReady := f }
    have hall : PpuRaised p.intMask m' := by
      obtain ⟨b, rfl⟩ := hr'
      exact hr.or b
    exact he' ▸ .nextLine hd m' f hall hf fun h => ⟨hr'.getLsbD (hv h).1, (hv h).2⟩
  · next hd => exact .moved hs ht hd

/-- A dot leaves the registers the CPU writes and the memories, and takes back no request. -/
theorem DotEffect.frame {p q : Ppu} (h : DotEffect p q) :
    q.lcdc = p.lcdc ∧ q.lyc = p.lyc ∧ q.vram = p.vram ∧ q.oam = p.oam ∧ PpuRaised p.intMask q.intMask ∧
      (p.frameReady = true → q.frameReady = true) := by
  cases h with
  | scanned | moved => exact ⟨rfl, rfl, rfl, rfl, PpuRaised.refl _, id⟩
  | drawn _ _ m hr => exact ⟨rfl, rfl, rfl, rfl, hr, id⟩
  | nextLine _ m f hr hf => exact ⟨rfl, rfl, rfl, rfl, hr, hf⟩

/-! Any number of dots. -/

/-- The last dot apart. -/
theorem Ppu.ticks_succ (n : Nat) (p : Ppu) : Ppu.ticks (n + 1) p = (Ppu.ticks n p).tick := by
  induction n generalizing p with
  | zero => rfl
  | succ n ih => exact ih p.tick

theorem Ppu.ticks_lcdc (n : Nat) (p : Ppu) : (Ppu.ticks n p).lcdc = p.lcdc := by
  induction n with
  | zero => rfl
  | succ n ih => rw [Ppu.ticks_succ, (Ppu.tick_dotEffect _).frame.1, ih]

/-- What every dot with the LCD on keeps, any number of dots keeps. -/
theorem Ppu.cycle_invariant (P : Ppu → Prop)
    (hdot : ∀ p q, p.lcdc.getLsbD 7 = true → DotEffect p q → P p → P q) {p : Ppu} (hp : P p) (n : Nat) :
    P (p.cycle n) := by
  unfold Ppu.cycle
  split
  · next hon =>
    induction n with
    | zero => exact hp
    | succ n ih =>
      rw [Ppu.ticks_succ]
      exact hdot _ _ (by rw [Ppu.ticks_lcdc]; exact hon) (Ppu.tick_dotEffect _) ih
  · exact hp

/-! The mode that line and dot say (R351). -/

/-- The mode at dot `dot` of line `ly`. -/
def modeAt (ly dot : Nat) : PpuMode :=
  if 144 ≤ ly then .vblank else if dot < 80 then .oamScan else if dot < 252 then .pixelTransfer else .hblank

theorem modeAt_eq_vblank {ly dot : Nat} : modeAt ly dot = .vblank ↔ 144 ≤ ly := by
  unfold modeAt
  split_ifs <;> simp only [false_iff, true_iff] <;> omega

theorem modeAt_eq_oamScan {ly dot : Nat} : modeAt ly dot = .oamScan ↔ ly < 144 ∧ dot < 80 := by
  unfold modeAt
  split_ifs <;> simp only [false_iff, true_iff] <;> omega

theorem modeAt_eq_pixelTransfer {ly dot : Nat} : modeAt ly dot = .pixelTransfer ↔ ly < 144 ∧ 80 ≤ dot ∧ dot < 252 := by
  unfold modeAt
  split_ifs <;> simp only [false_iff, true_iff] <;> omega

theorem modeAt_eq_hblank {ly dot : Nat} : modeAt ly dot = .hblank ↔ ly < 144 ∧ 252 ≤ dot := by
  unfold modeAt
  split_ifs <;> simp only [false_iff, true_iff] <;> omega

/-- The mode changes within a line only at the dots 80 and 252. -/
theorem modeAt_succ {ly dot : Nat} (h80 : ¬(modeAt ly dot = .oamScan ∧ dot + 1 = 80))
    (h252 : ¬(modeAt ly dot = .pixelTransfer ∧ dot + 1 = 252)) : modeAt ly (dot + 1) = modeAt ly dot := by
  rw [modeAt_eq_oamScan] at h80
  rw [modeAt_eq_pixelTransfer] at h252
  cases hm : modeAt ly dot with
  | hblank => rw [modeAt_eq_hblank] at hm ⊢; omega
  | vblank => rw [modeAt_eq_vblank] at hm ⊢; omega
  | oamScan => rw [modeAt_eq_oamScan] at hm ⊢; omega
  | pixelTransfer => rw [modeAt_eq_pixelTransfer] at hm ⊢; omega

/-- With the LCD on, `ModeAgrees` names the mode. -/
theorem Ppu.modeAgrees_on {p : Ppu} (hon : p.lcdc.getLsbD 7 = true) : p.ModeAgrees ↔ p.mode = modeAt p.ly p.dot := by
  rw [Ppu.ModeAgrees, if_pos hon, eq_comm (a := p.mode) (b := modeAt p.ly p.dot)]
  cases p.mode with
  | hblank => simp only [modeAt_eq_hblank, reduceCtorEq, false_iff, true_iff]; omega
  | vblank => simp only [modeAt_eq_vblank, reduceCtorEq, false_iff, true_iff]; omega
  | oamScan => simp only [modeAt_eq_oamScan, reduceCtorEq, false_iff, true_iff]; omega
  | pixelTransfer => simp only [modeAt_eq_pixelTransfer, reduceCtorEq, false_iff]; omega

/-- With the LCD off it asks for line 0, dot 0 in `HBlank`. -/
theorem Ppu.modeAgrees_off {p : Ppu} (hoff : p.lcdc.getLsbD 7 = false) :
    p.ModeAgrees ↔ p.ly = 0 ∧ p.dot = 0 ∧ p.mode = .hblank := by
  rw [Ppu.ModeAgrees, hoff]
  exact Iff.rfl

/-- The invariant with the LCD on. -/
theorem Ppu.inv_on {p : Ppu} (hon : p.lcdc.getLsbD 7 = true) : p.Inv ↔
    p.ly < 154 ∧ p.dot < 456 ∧ p.mode = modeAt p.ly p.dot ∧ p.lycFlag = decide (p.ly = p.lyc.toNat) := by
  rw [Ppu.Inv, Ppu.modeAgrees_on hon]

/-- A dot with the LCD on: one place on along the frame, line, dot, mode and `lyc_flag` consistent. -/
theorem DotEffect.inv {p q : Ppu} (h : DotEffect p q) (hon : p.lcdc.getLsbD 7 = true) (hp : p.Inv) :
    q.Inv ∧ q.position = (p.position + 1) % 70224 := by
  obtain ⟨hl, hd, hm, hf⟩ := (Ppu.inv_on hon).1 hp
  rw [Ppu.inv_on (by rw [h.frame.1]; exact hon)]
  unfold Ppu.position
  cases h with
  | scanned hs hd' =>
    rw [hs, eq_comm, modeAt_eq_oamScan] at hm
    exact ⟨⟨hl, by simp only; omega, (modeAt_eq_pixelTransfer.2 (by simp only; omega)).symm, hf⟩, by simp only; omega⟩
  | drawn hs hd' m hr =>
    rw [hs, eq_comm, modeAt_eq_pixelTransfer] at hm
    simp only [Ppu.renderLine]
    exact ⟨⟨hl, by omega, (modeAt_eq_hblank.2 (by omega)).symm, hf⟩, by omega⟩
  | nextLine hd' m f hr hf' hv =>
    refine ⟨⟨by simp only; omega, by simp only; omega, ?_, rfl⟩, by simp only; omega⟩
    have hlast : p.mode = .vblank ↔ 144 ≤ p.ly := by rw [hm, modeAt_eq_vblank]
    simp only [Ppu.lineMode]
    split_ifs with h144 hlt
    · exact (modeAt_eq_vblank.2 (by omega)).symm
    · exact (modeAt_eq_oamScan.2 ⟨hlt, by omega⟩).symm
    · rw [hlast.2 (by omega), modeAt_eq_vblank.2 (by omega)]
  | moved hs ht hn =>
    rw [hm] at hs ht
    exact ⟨⟨hl, by simp only; omega, hm.trans (modeAt_succ hs ht).symm, hf⟩, by simp only; omega⟩

/-- Where the frame's last visible place is passed, V-blank is requested and the frame announced (R350). -/
theorem DotEffect.vblank {p q : Ppu} (h : DotEffect p q) (hp : p.position + 1 = 456 * 144) (hd : p.dot < 456) :
    q.intMask.getLsbD 0 = true ∧ q.frameReady = true := by
  unfold Ppu.position at hp
  cases h with
  | nextLine hd' m f hr hf' hv => exact hv (by omega)
  | scanned hs hd' => omega
  | drawn hs hd' => omega
  | moved hs ht hn => omega

/-- `n` dots with the LCD on, by induction on them. -/
theorem Ppu.ticks_frame {p : Ppu} (hp : p.Inv) (hon : p.lcdc.getLsbD 7 = true) (n : Nat) :
    (Ppu.ticks n p).Inv ∧ (Ppu.ticks n p).position = (p.position + n) % 70224 ∧
      (p.position < 456 * 144 → 456 * 144 ≤ p.position + n →
        (Ppu.ticks n p).intMask.getLsbD 0 = true ∧ (Ppu.ticks n p).frameReady = true) ∧
      (Ppu.ticks n p).vram = p.vram ∧ (Ppu.ticks n p).oam = p.oam := by
  induction n with
  | zero =>
    obtain ⟨hl, hd, -, -⟩ := id hp
    refine ⟨hp, ?_, fun h h' => by omega, rfl, rfl⟩
    simp only [Ppu.ticks, Ppu.position]
    omega
  | succ n ih =>
    obtain ⟨hq, hpos, hvb, hv, ho⟩ := ih
    have hdot := Ppu.tick_dotEffect (Ppu.ticks n p)
    obtain ⟨-, -, hv', ho', hr, hf⟩ := hdot.frame
    obtain ⟨hq', hpos'⟩ := hdot.inv (by rw [Ppu.ticks_lcdc]; exact hon) hq
    rw [Ppu.ticks_succ]
    refine ⟨hq', by rw [hpos', hpos]; omega, fun h h' => ?_, hv'.trans hv, ho'.trans ho⟩
    rcases Nat.lt_or_ge (p.position + n) (456 * 144) with hlt | hge
    · exact hdot.vblank (by omega) hq.2.1
    · exact ⟨hr.getLsbD (hvb h hge).1, hf (hvb h hge).2⟩

/-- Settles O44: the invariant along the dots gives line, dot and mode. -/
theorem ppuFrame : Obligations.PpuFrame := by
  unfold Obligations.PpuFrame
  rintro p q n hp hon rfl
  obtain ⟨hq, hpos, hvb, hv, ho⟩ := Ppu.ticks_frame hp hon n
  have hc : p.cycle n = Ppu.ticks n p := if_pos hon
  rw [hc]
  obtain ⟨hl, hd, hm, -⟩ := (Ppu.inv_on (by rw [Ppu.ticks_lcdc]; exact hon)).1 hq
  refine ⟨hpos, hl, hd, fun h => ?_, fun h => ?_, hvb, hv, ho⟩
  · rw [hm, modeAt, if_neg (Nat.not_le.2 h)]
  · rw [hm, modeAt, if_pos h]

/-! The registers on the bus (R342 to R346). -/

/-- The addresses of the PPU's registers, the DMA register's apart. -/
theorem route_port_video {k : Nat} (hk : 0x40 ≤ k ∧ k ≤ 0x4B ∧ k ≠ 0x46) :
    route (BitVec.ofNat 16 (0xFF00 + k)) = .io k ∧ port k = .video k := by
  obtain ⟨hlo, hhi, hne⟩ := hk
  have ha : (BitVec.ofNat 16 (0xFF00 + k)).toNat = 0xFF00 + k := by
    rw [BitVec.toNat_ofNat]
    omega
  refine ⟨route_eq_iff.2 ⟨by omega, by omega, by omega⟩, ?_⟩
  simp (disch := omega) only [port, if_neg, if_pos]

section Registers
variable {k : Nat} (hk : 0x40 ≤ k ∧ k ≤ 0x4B ∧ k ≠ 0x46)
include hk

theorem read8_video (s : State) : read8 s (BitVec.ofNat 16 (0xFF00 + k)) = s.ppu.read k := by
  obtain ⟨hr, hp⟩ := route_port_video hk
  simp only [read8_io hr, readPort, hp]

theorem write8_video (s : State) (v : Byte) :
    write8 s (BitVec.ofNat 16 (0xFF00 + k)) v = { s with ppu := s.ppu.write k v } := by
  obtain ⟨hr, hp⟩ := route_port_video hk
  simp only [write8_io hr, writePort, hp]

end Registers

/-- STAT as a number (R343). -/
theorem toNat_readStat (p : Ppu) : p.readStat.toNat = 0x80 + 8 * p.statSel.toNat + 4 * p.lycFlag.toNat +
    (match p.mode with | .hblank => 0 | .vblank => 1 | .oamScan => 2 | .pixelTransfer => 3) := by
  unfold Ppu.readStat
  generalize p.statSel = sel, p.lycFlag = flag, p.mode = mode
  revert sel
  cases flag <;> cases mode <;> decide

/-- With the LCD off the PPU rests at line 0 in `HBlank` (R352). -/
theorem Ppu.Inv.off {p : Ppu} (h : p.Inv) (hoff : p.lcdc.getLsbD 7 = false) : p.ly = 0 ∧ p.mode = .hblank := by
  obtain ⟨-, -, hm, -⟩ := h
  obtain ⟨hl, -, hm⟩ := (Ppu.modeAgrees_off hoff).1 hm
  exact ⟨hl, hm⟩

/-- Settles O46: each register by its address. -/
theorem ppuRegisters : Obligations.PpuRegisters := by
  unfold Obligations.PpuRegisters
  intro s v
  rw [read8_video (k := 0x41) (by decide), read8_video (k := 0x42) (by decide), read8_video (k := 0x43) (by decide),
    read8_video (k := 0x44) (by decide), read8_video (k := 0x45) (by decide), read8_video (k := 0x4A) (by decide),
    read8_video (k := 0x4B) (by decide), write8_video (k := 0x41) (by decide), write8_video (k := 0x42) (by decide),
    write8_video (k := 0x43) (by decide), write8_video (k := 0x44) (by decide), write8_video (k := 0x45) (by decide),
    write8_video (k := 0x4A) (by decide), write8_video (k := 0x4B) (by decide)]
  have hstat : s.ppu.read 0x41 = s.ppu.readStat := rfl
  have hly : s.ppu.read 0x44 = BitVec.ofNat 8 s.ppu.ly := rfl
  have hsel : v.extractLsb' 3 4 = BitVec.ofNat 4 (v.toNat / 8 % 16) := by
    apply BitVec.eq_of_toNat_eq
    simp [Nat.shiftRight_eq_div_pow]
  refine ⟨⟨hstat ▸ toNat_readStat s.ppu, by rw [← hsel]; rfl, fun hinv hoff => ?_⟩, ⟨fun hl => ?_, rfl, rfl, rfl⟩,
    rfl, rfl, rfl, rfl, rfl, rfl, rfl, rfl⟩
  · obtain ⟨hl, hm⟩ := hinv.off hoff
    rw [hly, hl, hstat, toNat_readStat, hm]
    exact ⟨by simp only; omega, rfl⟩
  · rw [hly, BitVec.toNat_ofNat, Nat.mod_eq_of_lt hl]

/-! The LCD switch (R352). -/

/-- Line 0 compared with LYC. -/
theorem decide_zero_eq_toNat (v : Byte) : decide (0 = v.toNat) = decide (v = 0#8) := by
  rw [decide_eq_decide, ← BitVec.toNat_inj]
  exact eq_comm

/-- Settles O45: the three cases of a write of LCDC. -/
theorem lcdSwitch : Obligations.LcdSwitch := by
  unfold Obligations.LcdSwitch
  rintro s v t rfl
  rw [read8_video (k := 0x40) (by decide), write8_video (k := 0x40) (by decide)]
  have hw : s.ppu.write 0x40 v = s.ppu.writeLcdc v := rfl
  simp only [hw]
  refine ⟨?_, trivial, fun ⟨hon, hoff⟩ => ?_, fun ⟨hoff, hon⟩ => ?_, fun hsame => ?_⟩
  · show (s.ppu.writeLcdc v).lcdc = v
    unfold Ppu.writeLcdc
    split_ifs <;> rfl
  · have he : s.ppu.writeLcdc v = Ppu.lcdOff { s.ppu with lcdc := v } := by rw [Ppu.writeLcdc, hon, hoff]; rfl
    rw [he]
    refine ⟨?_, fun x y _ _ => ?_, fun n => ?_⟩
    · rw [← decide_zero_eq_toNat]
      rfl
    · have hp : Row.pixel (Rows.row [] y) x = 0#2 := pixel_replicate_zero _ x
      exact ⟨congrArg Config.palette hp, hp⟩
    · exact if_neg (by rw [show (Ppu.lcdOff { s.ppu with lcdc := v }).lcdc = v from rfl, hoff]; decide)
  · have he : s.ppu.writeLcdc v = Ppu.lcdOn { s.ppu with lcdc := v } := by rw [Ppu.writeLcdc, hon, hoff]; rfl
    rw [he, ← decide_zero_eq_toNat]
    rfl
  · unfold Ppu.writeLcdc
    rw [hsame]
    cases v.getLsbD 7 <;> rfl

/-! The invariant (R340, R350 to R353). -/

/-- A dot keeps the invariant. -/
theorem Ppu.inv_cycle {p : Ppu} (hp : p.Inv) (n : Nat) : (p.cycle n).Inv :=
  Ppu.cycle_invariant Ppu.Inv (fun _ _ hon hdot hp => (hdot.inv hon hp).1) hp n

/-- A write of LCDC: off, on, or with the LCD's bit as it was. -/
theorem Ppu.inv_writeLcdc {p : Ppu} (hp : p.Inv) (v : Byte) : (p.writeLcdc v).Inv := by
  unfold Ppu.writeLcdc
  split_ifs with h1 h2
  · refine ⟨Nat.zero_lt_succ _, Nat.zero_lt_succ _, (Ppu.modeAgrees_off ?_).2 ⟨rfl, rfl, rfl⟩, rfl⟩
    rw [Bool.and_eq_true, Bool.not_eq_true'] at h1
    exact h1.2
  · refine (Ppu.inv_on ?_).2 ⟨Nat.zero_lt_succ _, Nat.zero_lt_succ _, rfl, rfl⟩
    rw [Bool.and_eq_true] at h2
    exact h2.2
  · have hsame : v.getLsbD 7 = p.lcdc.getLsbD 7 := by
      revert h1 h2
      cases v.getLsbD 7 <;> cases p.lcdc.getLsbD 7 <;> simp
    obtain ⟨hl, hd, hm, hf⟩ := hp
    refine ⟨hl, hd, ?_, hf⟩
    unfold Ppu.ModeAgrees at hm ⊢
    rwa [hsame]

/-- A register write keeps the invariant: only LCDC and LYC reach what it speaks of. -/
theorem Ppu.inv_write {p : Ppu} (hp : p.Inv) (k : Nat) (v : Byte) : (p.write k v).Inv := by
  unfold Ppu.write
  split
  · exact Ppu.inv_writeLcdc hp v
  · exact hp
  · exact hp
  · exact hp
  · obtain ⟨hl, hd, hm, -⟩ := hp
    exact ⟨hl, hd, hm, rfl⟩
  all_goals exact hp

/-- A reset PPU starts its first line (62_ppu.md R340). -/
theorem Ppu.inv_reset (epoch : Nat) : (Ppu.reset epoch).Inv := by
  have hon : (Ppu.reset epoch).lcdc.getLsbD 7 = true := (by decide : (0x91#8 : Byte).getLsbD 7 = true)
  rw [Ppu.inv_on hon]
  exact ⟨Nat.zero_lt_succ 153, Nat.zero_lt_succ 455, rfl, rfl⟩

/-- Settles O56: the invariant is one of the PPU's own operations. -/
theorem ppuStaysConsistent : Obligations.PpuStaysConsistent := by
  unfold Obligations.PpuStaysConsistent
  intro s t hs h
  exact step_ppu_invariant h Ppu.Inv Ppu.inv_reset (fun _ hp => hp) (fun _ k v hp => Ppu.inv_write hp k v)
    (fun _ _ _ _ _ hp => hp) (fun _ n hp => Ppu.inv_cycle hp n) hs

end Sys2Proof.Machine
end

section
/-! The scanline renderer (62_ppu.md R360 to R368) against the formulas of the statement, column by column, and the
canonical form of the line buffers. -/

namespace Sys2Proof.Machine

open Sys2Proof

/-! The line buffers. -/

/-- A line that is not listed is all zero. -/
theorem Rows.row_of_unlisted {m : Rows} {y : Nat} (h : ∀ e ∈ m, e.1 ≠ y) :
    m.row y = List.replicate Config.lcdW 0#2 := by
  induction m with
  | nil => rfl
  | cons e m ih =>
    rw [Rows.row, if_neg (h e (List.mem_cons_self ..))]
    exact ih fun d hd => h d (List.mem_cons_of_mem _ hd)

/-- Where lines rise strictly, a dropped line is all zero. -/
theorem Rows.row_drop_same {m : Rows} (h : m.Pairwise (fun p q => p.1 < q.1)) (y : Nat) :
    (m.drop y).row y = List.replicate Config.lcdW 0#2 := by
  induction m with
  | nil => rfl
  | cons e m ih =>
    obtain ⟨he, hm⟩ := List.pairwise_cons.1 h
    rw [Rows.drop]
    split_ifs with hy
    · exact Rows.row_of_unlisted fun d hd => by have := he d hd; omega
    · rw [Rows.row, if_neg hy]
      exact ih hm

/-- The line written, read back. -/
theorem Rows.row_put_same {m : Rows} (h : m.Pairwise (fun p q => p.1 < q.1)) (y : Nat) (r : Row) :
    (m.put y r).row y = r := by
  unfold Rows.put
  split_ifs with hr
  · rw [Rows.row_drop_same h, hr]
  · exact Rows.row_insert_same m y r

theorem Rows.mem_drop {m : Rows} {y : Nat} {e : Nat × Row} (h : e ∈ m.drop y) : e ∈ m := by
  induction m with
  | nil => exact h
  | cons d m ih =>
    rw [Rows.drop] at h
    split_ifs at h
    · exact List.mem_cons_of_mem _ h
    · rcases List.mem_cons.1 h with rfl | h
      · exact List.mem_cons_self ..
      · exact List.mem_cons_of_mem _ (ih h)

theorem Rows.mem_insert {m : Rows} {y : Nat} {r : Row} {e : Nat × Row} (h : e ∈ m.insert y r) : e = (y, r) ∨ e ∈ m := by
  induction m with
  | nil => exact .inl (List.mem_singleton.1 h)
  | cons d m ih =>
    rw [Rows.insert] at h
    split_ifs at h
    · exact List.mem_cons.1 h
    · exact (List.mem_cons.1 h).imp_right (List.mem_cons_of_mem _)
    · rcases List.mem_cons.1 h with rfl | h
      · exact .inr (List.mem_cons_self ..)
      · exact (ih h).imp_right (List.mem_cons_of_mem _)

theorem Rows.rising_drop {m : Rows} (h : m.Pairwise (fun p q => p.1 < q.1)) (y : Nat) :
    (m.drop y).Pairwise (fun p q => p.1 < q.1) := by
  induction m with
  | nil => exact h
  | cons e m ih =>
    obtain ⟨he, hm⟩ := List.pairwise_cons.1 h
    rw [Rows.drop]
    split_ifs
    · exact hm
    · exact List.pairwise_cons.2 ⟨fun d hd => he d (Rows.mem_drop hd), ih hm⟩

theorem Rows.rising_insert {m : Rows} (h : m.Pairwise (fun p q => p.1 < q.1)) (y : Nat) (r : Row) :
    (m.insert y r).Pairwise (fun p q => p.1 < q.1) := by
  induction m with
  | nil => exact List.pairwise_singleton ..
  | cons e m ih =>
    obtain ⟨he, hm⟩ := List.pairwise_cons.1 h
    rw [Rows.insert]
    split_ifs with hlt heq
    · refine List.pairwise_cons.2 ⟨fun d hd => ?_, h⟩
      rcases List.mem_cons.1 hd with rfl | hd
      · exact hlt
      · exact Nat.lt_trans hlt (he d hd)
    · exact List.pairwise_cons.2 ⟨fun d hd => heq ▸ he d hd, hm⟩
    · refine List.pairwise_cons.2 ⟨fun d hd => ?_, ih hm⟩
      rcases Rows.mem_insert hd with rfl | hd
      · exact Nat.lt_of_le_of_ne (Nat.le_of_not_lt hlt) (Ne.symm heq)
      · exact he d hd

/-- Writing a visible line of full width keeps the canonical form. -/
theorem Rows.canonical_put {m : Rows} (h : Rows.Canonical m) {y : Nat} {r : Row} (hy : y < Config.lcdH)
    (hr : r.length = Config.lcdW) : Rows.Canonical (m.put y r) := by
  obtain ⟨hrise, hall⟩ := h
  unfold Rows.put
  split_ifs with hz
  · exact ⟨Rows.rising_drop hrise y, fun e he => hall e (Rows.mem_drop he)⟩
  · refine ⟨Rows.rising_insert hrise y r, fun e he => ?_⟩
    rcases Rows.mem_insert he with rfl | he
    · exact ⟨hy, hr, hz⟩
    · exact hall e he

/-- Column `x` of a line, as the library reads a list. -/
theorem Row.pixel_eq_getD (r : Row) (x : Nat) : r.pixel x = r.getD x 0#2 := by
  induction r generalizing x with
  | nil => rfl
  | cons p r ih =>
    cases x with
    | zero => rfl
    | succ x => exact ih x

/-! Pixels as numbers. -/

/-- The colour index that the two bitplane bytes give (R348). -/
theorem planes_eq_ofNat (lo hi : Byte) (k : Nat) :
    planes lo hi k = BitVec.ofNat 2 (2 * (hi.toNat / 2 ^ k % 2) + lo.toNat / 2 ^ k % 2) := by
  have hpair : ∀ a b : Bool, BitVec.ofBool a ++ BitVec.ofBool b = BitVec.ofNat 2 (2 * a.toNat + b.toNat) := by decide
  have hbit (v : Byte) : (v.getLsbD k).toNat = v.toNat / 2 ^ k % 2 := by
    rw [getLsbD_eq_decide]
    rcases Nat.mod_two_eq_zero_or_one (v.toNat / 2 ^ k) with h | h <;> rw [h] <;> rfl
  rw [planes, hpair, hbit, hbit]

/-- The shade of a colour index (R346). -/
theorem shade_ofNat (pal : Byte) {c : Nat} (hc : c < 4) : shade pal (BitVec.ofNat 2 c) = shadeOf pal c := by
  apply BitVec.eq_of_toNat_eq
  have hpow : 2 ^ (2 * c) = 4 ^ c := by rw [Nat.pow_mul]
  rw [shade, shadeOf, BitVec.extractLsb'_toNat, BitVec.toNat_ofNat, BitVec.toNat_ofNat, Nat.mod_eq_of_lt hc,
    Nat.shiftRight_eq_div_pow, hpow]

/-! The background and the window (R361 to R365). -/

theorem bgIndex_lt (p : Ppu) (y x : Nat) : bgIndex p y x < 4 := by
  unfold bgIndex
  simp only
  omega

/-- The address of background tile `id` as a VRAM offset (R362). -/
theorem Ppu.bgTile_eq (p : Ppu) (id : Byte) :
    (if p.lcdc.getLsbD 4 then 0x8000 + 16 * id.toNat else 0x8800 + 16 * ((id.toNat + 128) % 256)) - 0x8000 =
      p.bgTile id := by
  unfold Ppu.bgTile
  split_ifs <;> omega

/-- The background or window index of every column (R361 to R363). -/
theorem Ppu.bgPixel_eq (p : Ppu) (y x : Nat) : p.bgPixel y x = BitVec.ofNat 2 (bgIndex p y x) := by
  unfold Ppu.bgPixel Ppu.useWindow Ppu.mapPixel Ppu.mapBase bgIndex
  simp only [planes_eq_ofNat, Ppu.bgTile_eq]
  split_ifs <;> rfl

theorem Ppu.length_bgLine (p : Ppu) (y : Nat) : (p.bgLine y).length = Config.lcdW := by
  unfold Ppu.bgLine
  split_ifs <;> simp

/-- A line of indexes by column (R361, R365). -/
theorem Ppu.bgLine_pixel (p : Ppu) (y : Nat) {x : Nat} (hx : x < 160) :
    (p.bgLine y).pixel x = BitVec.ofNat 2 (if p.lcdc.getLsbD 0 then bgIndex p y x else 0) := by
  unfold Ppu.bgLine
  split_ifs
  · rw [Row.pixel_eq_getD]
    simp [Config.lcdW, hx, Ppu.bgPixel_eq]
  · exact pixel_replicate_zero _ x

theorem Ppu.length_bgShades (p : Ppu) {line : Row} (h : line.length = Config.lcdW) :
    (p.bgShades line).length = Config.lcdW := by
  unfold Ppu.bgShades
  split_ifs <;> simp [h]

/-- Its shades by column (R364, R365). -/
theorem Ppu.bgShades_pixel (p : Ppu) {line : Row} {c x : Nat} (hx : x < line.length)
    (hl : line.pixel x = BitVec.ofNat 2 c) (hc : c < 4) :
    (p.bgShades line).pixel x = if p.lcdc.getLsbD 0 then shadeOf p.bgp c else 0#2 := by
  unfold Ppu.bgShades
  split_ifs
  · rw [← shade_ofNat _ hc, ← hl, Row.pixel_eq_getD, Row.pixel_eq_getD]
    simp [hx]
  · exact pixel_replicate_zero _ x

/-! Sprites (R366 to R368). -/

/-- The sprites that overlap the line (R366). -/
theorem Ppu.spritesOf_eq (p : Ppu) (y : Nat) : p.spritesOf y = selectedSprites p y := by
  have ho (i : Nat) : p.overlaps y i = decide (((p.oam.read .oam (4 * i)).toNat : Int) - 16 ≤ y ∧
      (y : Int) < ((p.oam.read .oam (4 * i)).toNat : Int) - 16 + (if p.lcdc.getLsbD 2 then 16 else 8)) := by
    have htop : p.oamByte i 0 = p.oam.read .oam (4 * i) := rfl
    rw [Ppu.overlaps, ← Bool.decide_and, decide_eq_decide, Ppu.spriteHeight, htop]
    split_ifs <;> omega
  unfold Ppu.spritesOf selectedSprites
  simp only [funext ho]

theorem overlaps_of_mem_spritesOf {p : Ppu} {y i : Nat} (h : i ∈ p.spritesOf y) : p.overlaps y i = true := by
  unfold Ppu.spritesOf at h
  split_ifs at h
  · exact (List.mem_filter.1 (List.mem_of_mem_take h)).2
  · exact absurd h (List.not_mem_nil)

/-- The tile number of a 16-line sprite is even (R368). -/
theorem toNat_evenTile (t : Byte) : (t &&& 0xFE#8).toNat = 2 * (t.toNat / 2) := by
  revert t
  decide

/-- The bitplane bytes of a sprite on a line it overlaps (R368). -/
theorem Ppu.spriteData_eq {p : Ppu} {y i : Nat} (h : p.overlaps y i = true) :
    16 * (if p.lcdc.getLsbD 2 then 2 * ((p.oamByte i 2).toNat / 2) else (p.oamByte i 2).toNat) +
      2 * (if (p.oamByte i 3).getLsbD 6 then
          (if p.lcdc.getLsbD 2 then 16 else 8 : Int) - 1 - (y - ((p.oamByte i 0).toNat - 16))
        else (y : Int) - ((p.oamByte i 0).toNat - 16)).toNat = p.spriteData y i := by
  rw [Ppu.overlaps, Bool.and_eq_true, decide_eq_true_eq, decide_eq_true_eq, Ppu.spriteHeight] at h
  obtain ⟨hlo, hhi⟩ := h
  unfold Ppu.spriteData Ppu.spriteRow Ppu.spriteHeight
  generalize p.lcdc.getLsbD 2 = tall, (p.oamByte i 3).getLsbD 6 = flip at hhi ⊢
  cases tall <;> cases flip <;> simp [toNat_evenTile, -BitVec.toNat_and] at hhi ⊢ <;> omega

theorem ofNat_two_eq_zero_iff {c : Nat} (hc : c < 4) : BitVec.ofNat 2 c = 0#2 ↔ c = 0 := by
  rw [← BitVec.toNat_inj, BitVec.toNat_ofNat, Nat.mod_eq_of_lt hc]
  rfl

/-- A transparent pixel and one the priority bit hides (`hidden`) are not drawn, any other by its shade (R368). -/
theorem opaqueShade_eq (pal : Byte) {idx : Nat} (hi : idx < 4) (hidden : Prop) [Decidable hidden] :
    (if BitVec.ofNat 2 idx = 0#2 ∨ hidden then none else some (shade pal (BitVec.ofNat 2 idx))) =
      if idx = 0 then none else if hidden then none else some (shadeOf pal idx) := by
  simp only [ofNat_two_eq_zero_iff hi, shade_ofNat pal hi]
  split_ifs <;> simp_all

/-- What a sprite draws on a line it overlaps (R368). -/
theorem Ppu.spritePixel_eq {p : Ppu} {y i : Nat} (h : p.overlaps y i = true) {c : Nat} (hc : c < 4) (x : Nat) :
    p.spritePixel y i x (BitVec.ofNat 2 c) = spriteShade p y x c i := by
  have htop : p.oamByte i 0 = p.oam.read .oam (4 * i) := rfl
  have hdata := Ppu.spriteData_eq h
  rw [htop] at hdata
  unfold Ppu.oamByte at hdata
  have hcol (left : Byte) : ((x : Int) - (left.toNat - 8)).toNat = x + 8 - left.toNat := by omega
  have hrange (left : Byte) :
      (left.toNat ≤ x + 8 ∧ x < left.toNat) ↔ ((left.toNat : Int) - 8 ≤ x ∧ (x : Int) < (left.toNat : Int) - 8 + 8) := by
    omega
  unfold Ppu.spritePixel spriteShade Ppu.oamByte
  simp only [hdata, hcol, planes_eq_ofNat, Ne, ofNat_two_eq_zero_iff hc]
  exact if_congr (hrange _) (opaqueShade_eq _ (by omega) _) rfl

theorem findSome?_spritePixel {p : Ppu} {y c : Nat} (hc : c < 4) (x : Nat) {l : List Nat}
    (hl : ∀ i ∈ l, p.overlaps y i = true) :
    (l.findSome? fun i => p.spritePixel y i x (BitVec.ofNat 2 c)) = l.findSome? (spriteShade p y x c) := by
  induction l with
  | nil => rfl
  | cons i l ih =>
    rw [List.findSome?_cons, List.findSome?_cons, Ppu.spritePixel_eq (hl i (List.mem_cons_self ..)) hc,
      ih fun j hj => hl j (List.mem_cons_of_mem _ hj)]

/-- Drawing a sprite keeps the width. -/
theorem Ppu.length_drawSprite (p : Ppu) (y i x : Nat) (bg line : Row) :
    (p.drawSprite y i x bg line).length = line.length := by
  induction line generalizing x bg with
  | nil => cases bg <;> rfl
  | cons s line ih =>
    cases bg with
    | nil => rfl
    | cons c bg => exact congrArg Nat.succ (ih (x + 1) bg)

/-- A sprite drawn from column `x` on, by column (R368). -/
theorem Ppu.drawSprite_pixel (p : Ppu) (y i x : Nat) {k : Nat} {bg line : Row} (hb : k < bg.length)
    (hl : k < line.length) : (p.drawSprite y i x bg line).pixel k =
      (p.spritePixel y i (x + k) (bg.pixel k)).getD (line.pixel k) := by
  induction line generalizing x k bg with
  | nil => exact absurd hl (Nat.not_lt_zero k)
  | cons s line ih =>
    cases bg with
    | nil => exact absurd hb (Nat.not_lt_zero k)
    | cons c bg =>
      cases k with
      | zero => rfl
      | succ k =>
        refine (ih (x + 1) (Nat.lt_of_succ_lt_succ hb) (Nat.lt_of_succ_lt_succ hl)).trans ?_
        rw [Nat.add_right_comm]
        rfl

/-- Sprites drawn one over another, the first of the list last: the first that draws at a column shows there (R367). -/
theorem Ppu.foldr_drawSprite_pixel (p : Ppu) (y : Nat) (sprites : List Nat) {x : Nat} {bg line : Row}
    (hb : x < bg.length) (hl : x < line.length) :
    x < (sprites.foldr (fun i acc => p.drawSprite y i 0 bg acc) line).length ∧
    (sprites.foldr (fun i acc => p.drawSprite y i 0 bg acc) line).pixel x =
      (sprites.findSome? fun i => p.spritePixel y i x (bg.pixel x)).getD (line.pixel x) := by
  induction sprites with
  | nil => exact ⟨hl, rfl⟩
  | cons i sprites ih =>
    obtain ⟨hlen, hpix⟩ := ih
    rw [List.foldr_cons, List.findSome?_cons, p.length_drawSprite, p.drawSprite_pixel y i 0 hb hlen, Nat.zero_add, hpix]
    refine ⟨hlen, ?_⟩
    cases p.spritePixel y i x (bg.pixel x) <;> rfl

theorem Ppu.drawSprites_eq_foldr (p : Ppu) (y : Nat) (bg line : Row) :
    p.drawSprites y bg line = (p.spritesOf y).foldr (fun i acc => p.drawSprite y i 0 bg acc) line :=
  List.foldl_reverse

theorem Ppu.length_drawSprites (p : Ppu) (y : Nat) (bg line : Row) :
    (p.drawSprites y bg line).length = line.length := by
  rw [Ppu.drawSprites_eq_foldr]
  induction p.spritesOf y with
  | nil => rfl
  | cons i sprites ih => rw [List.foldr_cons, p.length_drawSprite, ih]

/-- The sprites of a line by column, in the statement's terms (R366 to R368). -/
theorem Ppu.drawSprites_pixel (p : Ppu) (y : Nat) {x c : Nat} {bg line : Row} (hb : x < bg.length)
    (hl : x < line.length) (hbg : bg.pixel x = BitVec.ofNat 2 c) (hc : c < 4) :
    (p.drawSprites y bg line).pixel x =
      ((selectedSprites p y).findSome? (spriteShade p y x c)).getD (line.pixel x) := by
  rw [Ppu.drawSprites_eq_foldr, (p.foldr_drawSprite_pixel y _ hb hl).2, hbg, ← Ppu.spritesOf_eq]
  rw [findSome?_spritePixel hc x fun i hi => overlaps_of_mem_spritesOf hi]

/-! A rendered line. -/

/-- The line drawn, by column (R360 to R368). -/
theorem Ppu.renderLine_pixel {p : Ppu} (hfb : Rows.Canonical p.fb) (hci : Rows.Canonical p.ci) {x c : Nat} (hx : x < 160)
    (hc : c = if p.lcdc.getLsbD 0 then bgIndex p p.ly x else 0) :
    (p.renderLine.ci.row p.ly).pixel x = BitVec.ofNat 2 c ∧ (p.renderLine.fb.row p.ly).pixel x =
      ((selectedSprites p p.ly).findSome? (spriteShade p p.ly x c)).getD
        (if p.lcdc.getLsbD 0 then shadeOf p.bgp c else 0#2) := by
  have hlt : c < 4 := by
    rw [hc]
    split_ifs
    · exact bgIndex_lt p p.ly x
    · decide
  have hbg : (p.bgLine p.ly).pixel x = BitVec.ofNat 2 c := by rw [p.bgLine_pixel p.ly hx, hc]
  have hlen : x < (p.bgLine p.ly).length := by rw [p.length_bgLine]; exact hx
  have hlen' : x < (p.bgShades (p.bgLine p.ly)).length := by
    rw [p.length_bgShades (p.length_bgLine p.ly)]
    exact hx
  unfold Ppu.renderLine
  simp only
  rw [Rows.row_put_same hci.1, Rows.row_put_same hfb.1, p.drawSprites_pixel p.ly hlen hlen' hbg hlt,
    p.bgShades_pixel hlen hbg hlt]
  exact ⟨hbg, rfl⟩

/-- The other lines (R360). -/
theorem Ppu.renderLine_other (p : Ppu) {y : Nat} (hy : y ≠ p.ly) :
    p.renderLine.fb.row y = p.fb.row y ∧ p.renderLine.ci.row y = p.ci.row y :=
  ⟨Rows.row_put_ne _ _ hy, Rows.row_put_ne _ _ hy⟩

/-- The last dot of pixel transfer draws the line (R350). -/
theorem Ppu.cycle_one_drawn {p : Ppu} (hon : p.lcdc.getLsbD 7 = true) (hm : p.mode = .pixelTransfer) (hd : p.dot = 251) :
    (p.cycle 1).fb = (Ppu.renderLine { p with dot := p.dot + 1, mode := .hblank }).fb ∧
      (p.cycle 1).ci = (Ppu.renderLine { p with dot := p.dot + 1, mode := .hblank }).ci := by
  have hc : p.cycle 1 = p.tick := if_pos hon
  have h := p.tick_dotEffect
  rw [hc]
  generalize p.tick = q at h ⊢
  cases h with
  | drawn => exact ⟨rfl, rfl⟩
  | scanned hs => exact absurd (hs.symm.trans hm) (by decide)
  | nextLine h456 => omega
  | moved _ ht => exact absurd ⟨hm, by omega⟩ ht

/-- Settles O47: the drawn line by column, for the PPU at dot 252. -/
theorem renderLine : Obligations.RenderLine := by
  unfold Obligations.RenderLine
  rintro p q x hfb hci hon hm hd hx rfl
  obtain ⟨hqfb, hqci⟩ := Ppu.cycle_one_drawn hon hm hd
  unfold Ppu.pixel
  rw [hqfb, hqci]
  refine ⟨fun c hc => ?_, fun y hy => ?_⟩
  · obtain ⟨h1, h2⟩ := Ppu.renderLine_pixel (p := { p with dot := p.dot + 1, mode := .hblank }) hfb hci hx hc
    exact ⟨h1, congrArg Config.palette h2⟩
  · obtain ⟨h1, h2⟩ := Ppu.renderLine_other { p with dot := p.dot + 1, mode := .hblank } hy
    rw [h1, h2]
    exact ⟨rfl, rfl⟩

/-! The canonical form of the line buffers. -/

/-- The PPU's invariant with every store and buffer in canonical form. -/
def Ppu.Canonical (p : Ppu) : Prop :=
  p.Inv ∧ Memory.wf p.vram.cells ∧ Memory.wf p.oam.cells ∧ Rows.Canonical p.fb ∧ Rows.Canonical p.ci

theorem Rows.canonical_nil : Rows.Canonical [] := ⟨List.Pairwise.nil, fun _ he => absurd he (List.not_mem_nil)⟩

/-- Drawing a visible line. -/
theorem Ppu.canonical_renderLine {p : Ppu} (hfb : Rows.Canonical p.fb) (hci : Rows.Canonical p.ci) (hy : p.ly < 144) :
    Rows.Canonical p.renderLine.fb ∧ Rows.Canonical p.renderLine.ci := by
  have hlen := p.length_bgLine p.ly
  refine ⟨Rows.canonical_put hfb hy ?_, Rows.canonical_put hci hy hlen⟩
  rw [p.length_drawSprites, p.length_bgShades hlen]

/-- A dot draws no line but the visible one it is on. -/
theorem DotEffect.canonical {p q : Ppu} (h : DotEffect p q) (hon : p.lcdc.getLsbD 7 = true) (hp : p.Canonical) :
    q.Canonical := by
  obtain ⟨hinv, hv, ho, hfb, hci⟩ := hp
  obtain ⟨-, -, hv', ho', -, -⟩ := h.frame
  refine ⟨(h.inv hon hinv).1, hv' ▸ hv, ho' ▸ ho, ?_⟩
  cases h with
  | drawn hm hd m hr =>
    obtain ⟨-, -, hmode, -⟩ := (Ppu.inv_on hon).1 hinv
    rw [hm, eq_comm, modeAt_eq_pixelTransfer] at hmode
    exact Ppu.canonical_renderLine (p := { p with dot := p.dot + 1, mode := .hblank }) hfb hci hmode.1
  | scanned | nextLine | moved => exact ⟨hfb, hci⟩

/-- A register write leaves the memories; switching the LCD off empties the buffers (R352). -/
theorem Ppu.write_buffers (p : Ppu) (k : Nat) (v : Byte) :
    (p.write k v).vram = p.vram ∧ (p.write k v).oam = p.oam ∧
      ((p.write k v).fb = p.fb ∧ (p.write k v).ci = p.ci ∨ (p.write k v).fb = [] ∧ (p.write k v).ci = []) := by
  unfold Ppu.write
  split
  · unfold Ppu.writeLcdc
    split_ifs
    · exact ⟨rfl, rfl, .inr ⟨rfl, rfl⟩⟩
    · exact ⟨rfl, rfl, .inl ⟨rfl, rfl⟩⟩
    · exact ⟨rfl, rfl, .inl ⟨rfl, rfl⟩⟩
  all_goals exact ⟨rfl, rfl, .inl ⟨rfl, rfl⟩⟩

theorem Ppu.canonical_write {p : Ppu} (hp : p.Canonical) (k : Nat) (v : Byte) : (p.write k v).Canonical := by
  obtain ⟨hinv, hv, ho, hfb, hci⟩ := hp
  obtain ⟨hv', ho', hb⟩ := p.write_buffers k v
  refine ⟨Ppu.inv_write hinv k v, hv' ▸ hv, ho' ▸ ho, ?_⟩
  obtain ⟨h1, h2⟩ | ⟨h1, h2⟩ := hb <;> rw [h1, h2]
  · exact ⟨hfb, hci⟩
  · exact ⟨Rows.canonical_nil, Rows.canonical_nil⟩

/-- Every step keeps the PPU canonical. -/
theorem step_ppu_canonical {s t : State} (h : step s = .next t) (hs : s.ppu.Canonical) : t.ppu.Canonical := by
  refine step_ppu_invariant h Ppu.Canonical (fun epoch => ?_) (fun _ hp => hp)
    (fun _ k v hp => Ppu.canonical_write hp k v) (fun _ _ _ hv ho hp => ?_)
    (fun _ n hp => Ppu.cycle_invariant Ppu.Canonical (fun _ _ hon hdot hp => hdot.canonical hon hp) hp n) hs
  · exact ⟨Ppu.inv_reset epoch, List.Pairwise.nil, List.Pairwise.nil, Rows.canonical_nil, Rows.canonical_nil⟩
  · obtain ⟨hinv, hwv, hwo, hfb, hci⟩ := hp
    exact ⟨hinv, hv hwv, ho hwo, hfb, hci⟩

end Sys2Proof.Machine
end

section
/-! The APU's registers and counters (63_apu.md): what a write can do, what the sequencer clocks, and what the output
stage leaves alone. -/

namespace Sys2Proof.Machine

open Sys2Proof

/-! The ranges, by channel (R390). -/

/-- The running values of an envelope are in range. -/
def Envelope.InRange (e : Envelope) : Prop := e.volume ≤ 15 ∧ e.timer ≤ 7

/-- A pulse channel's counters are in range. -/
def Pulse.InRange (c : Pulse) : Prop := c.length ≤ 64 ∧ c.env.InRange

/-- Channel 3's counter is in range. -/
def Wave.InRange (c : Wave) : Prop := c.length ≤ 256

/-- Channel 4's counters are in range. -/
def Noise.InRange (c : Noise) : Prop := c.length ≤ 64 ∧ c.env.InRange

theorem Apu.inv_iff (a : Apu) : a.Inv ↔ a.ch1.InRange ∧ a.ch2.InRange ∧ a.ch3.InRange ∧ a.ch4.InRange ∧
    a.sweep.timer ≤ 8 ∧ a.fsAcc < 8192 := by
  unfold Apu.Inv Pulse.InRange Wave.InRange Noise.InRange Envelope.InRange
  constructor
  · rintro ⟨l1, l2, l3, l4, v1, v2, v4, t1, t2, t4, hs, hf⟩
    exact ⟨⟨l1, v1, t1⟩, ⟨l2, v2, t2⟩, l3, ⟨l4, v4, t4⟩, hs, hf⟩
  · rintro ⟨⟨l1, v1, t1⟩, ⟨l2, v2, t2⟩, l3, ⟨l4, v4, t4⟩, hs, hf⟩
    exact ⟨l1, l2, l3, l4, v1, v2, v4, t1, t2, t4, hs, hf⟩

/-! One component at a time. -/

section Components
variable {a : Apu} (h : a.Inv)
include h

theorem Apu.Inv.setCh1 {c : Pulse} (hc : c.InRange) : Apu.Inv { a with ch1 := c } := by
  obtain ⟨-, h2, h3, h4, hs, hf⟩ := a.inv_iff.1 h
  exact (Apu.inv_iff _).2 ⟨hc, h2, h3, h4, hs, hf⟩

theorem Apu.Inv.setCh2 {c : Pulse} (hc : c.InRange) : Apu.Inv { a with ch2 := c } := by
  obtain ⟨h1, -, h3, h4, hs, hf⟩ := a.inv_iff.1 h
  exact (Apu.inv_iff _).2 ⟨h1, hc, h3, h4, hs, hf⟩

theorem Apu.Inv.setCh3 {c : Wave} (hc : c.InRange) : Apu.Inv { a with ch3 := c } := by
  obtain ⟨h1, h2, -, h4, hs, hf⟩ := a.inv_iff.1 h
  exact (Apu.inv_iff _).2 ⟨h1, h2, hc, h4, hs, hf⟩

theorem Apu.Inv.setCh4 {c : Noise} (hc : c.InRange) : Apu.Inv { a with ch4 := c } := by
  obtain ⟨h1, h2, h3, -, hs, hf⟩ := a.inv_iff.1 h
  exact (Apu.inv_iff _).2 ⟨h1, h2, h3, hc, hs, hf⟩

theorem Apu.Inv.setSweep {w : Sweep} (hw : w.timer ≤ 8) : Apu.Inv { a with sweep := w } := by
  obtain ⟨h1, h2, h3, h4, -, hf⟩ := a.inv_iff.1 h
  exact (Apu.inv_iff _).2 ⟨h1, h2, h3, h4, hw, hf⟩

theorem Apu.Inv.setFs {n : Nat} (hn : n < 8192) (k : BitVec 3) : Apu.Inv { a with fsAcc := n, fsPhase := k } := by
  obtain ⟨h1, h2, h3, h4, hs, -⟩ := a.inv_iff.1 h
  exact (Apu.inv_iff _).2 ⟨h1, h2, h3, h4, hs, hn⟩

theorem Apu.Inv.ch1 : a.ch1.InRange := (a.inv_iff.1 h).1

theorem Apu.Inv.ch2 : a.ch2.InRange := (a.inv_iff.1 h).2.1

theorem Apu.Inv.ch3 : a.ch3.InRange := (a.inv_iff.1 h).2.2.1

theorem Apu.Inv.ch4 : a.ch4.InRange := (a.inv_iff.1 h).2.2.2.1

theorem Apu.Inv.sweep : a.sweep.timer ≤ 8 := (a.inv_iff.1 h).2.2.2.2.1

end Components

/-! Loads, triggers and clocks keep the ranges. -/

theorem lengthLoad_le (v : Byte) : lengthLoad v ≤ 64 := Nat.sub_le _ _

theorem lengthLoad_eq (v : Byte) : lengthLoad v = 64 - v.toNat % 64 := by
  simp [lengthLoad, BitVec.extractLsb'_toNat]

theorem Envelope.inRange_trigger (e : Envelope) : e.trigger.InRange :=
  ⟨Nat.le_of_lt_succ e.init.isLt, Nat.le_of_lt_succ e.period.isLt⟩

/-- A trigger reloads a counter that has run out. -/
theorem reload_le {length full : Nat} (h : length ≤ full) : (if length = 0 then full else length) ≤ full := by
  split
  · exact le_rfl
  · exact h

theorem Pulse.InRange.trigger {c : Pulse} (h : c.InRange) : c.trigger.InRange :=
  ⟨reload_le h.1, c.env.inRange_trigger⟩

theorem Wave.InRange.trigger {c : Wave} (h : c.InRange) : c.trigger.InRange := reload_le (full := 256) h

theorem Noise.InRange.trigger {c : Noise} (h : c.InRange) : c.trigger.InRange :=
  ⟨reload_le h.1, c.env.inRange_trigger⟩

theorem Sweep.reload_le (w : Sweep) : w.reload ≤ 8 := by
  have hp := w.period.isLt
  unfold Sweep.reload
  split <;> omega

theorem lengthNext_le (en : Bool) (length : Nat) : lengthNext en length ≤ length := by
  unfold lengthNext
  split <;> omega

theorem Envelope.InRange.clock {e : Envelope} (h : e.InRange) : e.clock.InRange := by
  obtain ⟨hv, ht⟩ := h
  have hp := e.period.isLt
  unfold Envelope.clock
  split_ifs
  · simp only [Envelope.adjust, Envelope.InRange]
    split_ifs <;> dsimp only <;> omega
  · exact ⟨hv, Nat.le_trans (Nat.sub_le _ _) ht⟩
  · exact ⟨hv, ht⟩

theorem Pulse.InRange.lengthClock {c : Pulse} (h : c.InRange) : c.lengthClock.InRange :=
  ⟨(lengthNext_le _ _).trans h.1, h.2⟩

theorem Wave.InRange.lengthClock {c : Wave} (h : c.InRange) : c.lengthClock.InRange := (lengthNext_le _ _).trans h

theorem Noise.InRange.lengthClock {c : Noise} (h : c.InRange) : c.lengthClock.InRange :=
  ⟨(lengthNext_le _ _).trans h.1, h.2⟩

/-! Register writes (R392 to R408). -/

/-- What a write to a sound register or the wave RAM can do, by its address and the master switch. -/
inductive SoundWrite (a : Apu) (v : Byte) : Apu → Prop where
  | waveRam (j : Nat) : SoundWrite a v { a with waveRam := a.waveRam.write j v }
  | powerOff (hm : a.master = true) : SoundWrite a v a.powerOff
  | powerOn (hm : a.master = false) : SoundWrite a v a.powerOn
  | unchanged : SoundWrite a v a
  | control (k : Nat) (hm : a.master = true) : SoundWrite a v (a.writeOn k v)
  | length (k : Nat) (hm : a.master = false) : SoundWrite a v (a.writeLength k v)

theorem Apu.writeNr52_soundWrite (a : Apu) (v : Byte) : SoundWrite a v (a.writeNr52 v) := by
  unfold Apu.writeNr52
  split_ifs with hoff hon
  · exact .powerOff (Bool.and_eq_true_iff.1 hoff).1
  · exact .powerOn (Bool.not_eq_true' _ ▸ (Bool.and_eq_true_iff.1 hon).1)
  · exact .unchanged

theorem Apu.write_soundWrite (a : Apu) (k : Nat) (v : Byte) : SoundWrite a v (a.write k v) := by
  unfold Apu.write
  split_ifs with hram hsw hm
  · exact .waveRam _
  · exact a.writeNr52_soundWrite v
  · exact .control k hm
  · exact .length k (Bool.not_eq_true _ ▸ hm)

/-- A write to NR14 changes channel 1 and the sweep unit. -/
theorem Apu.writeNr14_eq (a : Apu) (v : Byte) :
    ∃ (w : Sweep) (c : Pulse), a.writeNr14 v = { a with sweep := w, ch1 := c } ∧
      (a.sweep.timer ≤ 8 → w.timer ≤ 8) ∧ (a.ch1.InRange → c.InRange) := by
  unfold Apu.writeNr14
  split
  · exact ⟨_, _, rfl, fun _ => a.sweep.reload_le, fun h => (Pulse.InRange.trigger (c := a.ch1.writeControl v) h : _)⟩
  · exact ⟨a.sweep, a.ch1.writeControl v, rfl, id, id⟩

/-- A control register's write leaves the switch, the wave RAM and the audio output (R392). -/
theorem Apu.writeOn_frame (a : Apu) (k : Nat) (v : Byte) :
    (a.writeOn k v).master = a.master ∧ (a.writeOn k v).waveRam = a.waveRam ∧ (a.writeOn k v).pushed = a.pushed := by
  obtain ⟨w, c, h14, -, -⟩ := a.writeNr14_eq v
  unfold Apu.writeOn
  split
  case h_5 =>
    rw [h14]
    exact ⟨rfl, rfl, rfl⟩
  all_goals exact ⟨rfl, rfl, rfl⟩

/-- A length load changes the length counters (R392). -/
theorem Apu.writeLength_eq (a : Apu) (k : Nat) (v : Byte) : a.writeLength k v = { a with
    ch1 := { a.ch1 with length := if k = 0x11 then 64 - v.toNat % 64 else a.ch1.length },
    ch2 := { a.ch2 with length := if k = 0x16 then 64 - v.toNat % 64 else a.ch2.length },
    ch3 := { a.ch3 with length := if k = 0x1B then 256 - v.toNat else a.ch3.length },
    ch4 := { a.ch4 with length := if k = 0x20 then 64 - v.toNat % 64 else a.ch4.length } } := by
  rw [← lengthLoad_eq]
  unfold Apu.writeLength
  split
  case h_5 h1 h2 h3 h4 => rw [if_neg h1, if_neg h2, if_neg h3, if_neg h4]
  all_goals rfl

theorem Apu.Inv.writeLength {a : Apu} (h : a.Inv) (k : Nat) (v : Byte) : (a.writeLength k v).Inv := by
  unfold Apu.writeLength
  split
  · exact h.setCh1 ⟨lengthLoad_le v, h.ch1.2⟩
  · exact h.setCh2 ⟨lengthLoad_le v, h.ch2.2⟩
  · exact h.setCh3 (Nat.sub_le 256 v.toNat)
  · exact h.setCh4 ⟨lengthLoad_le v, h.ch4.2⟩
  · exact h

theorem Pulse.InRange.writeNr24 {c : Pulse} (h : c.InRange) (v : Byte) : (c.writeNr24 v).InRange := by
  unfold Pulse.writeNr24
  split
  · exact Pulse.InRange.trigger (c := c.writeControl v) h
  · exact h

theorem Wave.InRange.writeNr34 {c : Wave} (h : c.InRange) (v : Byte) : (c.writeNr34 v).InRange := by
  unfold Wave.writeNr34
  split
  · exact Wave.InRange.trigger (c := c.writeControl v) h
  · exact h

theorem Noise.InRange.writeNr44 {c : Noise} (h : c.InRange) (v : Byte) : (c.writeNr44 v).InRange := by
  unfold Noise.writeNr44
  split
  · exact Noise.InRange.trigger (c := { c with lengthEn := v.getLsbD 6 }) h
  · exact h

theorem Apu.Inv.writeOn {a : Apu} (h : a.Inv) (k : Nat) (v : Byte) : (a.writeOn k v).Inv := by
  unfold Apu.writeOn
  split
  case h_1 => exact h.setSweep h.sweep
  case h_2 => exact h.setCh1 ⟨lengthLoad_le v, h.ch1.2⟩
  case h_3 | h_4 => exact h.setCh1 h.ch1
  case h_5 =>
    obtain ⟨w, c, h14, hw, hc⟩ := a.writeNr14_eq v
    rw [h14]
    exact (h.setSweep (hw h.sweep)).setCh1 (hc h.ch1)
  case h_6 => exact h.setCh2 ⟨lengthLoad_le v, h.ch2.2⟩
  case h_7 | h_8 => exact h.setCh2 h.ch2
  case h_9 => exact h.setCh2 (h.ch2.writeNr24 v)
  case h_10 | h_12 | h_13 => exact h.setCh3 h.ch3
  case h_11 => exact h.writeLength 0x1B v
  case h_14 => exact h.setCh3 (h.ch3.writeNr34 v)
  case h_15 => exact h.writeLength 0x20 v
  case h_16 | h_17 => exact h.setCh4 h.ch4
  case h_18 => exact h.setCh4 (h.ch4.writeNr44 v)
  case h_19 | h_20 | h_21 => exact h

theorem Apu.Inv.powerOff {a : Apu} (h : a.Inv) : a.powerOff.Inv := by
  have hoff : Envelope.off.InRange := ⟨Nat.zero_le _, Nat.zero_le _⟩
  obtain ⟨h1, h2, h3, h4, -, hf⟩ := a.inv_iff.1 h
  exact (Apu.inv_iff _).2 ⟨⟨h1.1, hoff⟩, ⟨h2.1, hoff⟩, h3, ⟨h4.1, hoff⟩, Nat.zero_le _, hf⟩

theorem SoundWrite.inv {a b : Apu} {v : Byte} (hw : SoundWrite a v b) (h : a.Inv) : b.Inv := by
  cases hw with
  | waveRam j | unchanged => exact h
  | powerOff => exact h.powerOff
  | powerOn => exact h.setFs (n := 0) (by decide) 0#3
  | control k => exact h.writeOn k v
  | length k => exact h.writeLength k v

theorem Apu.silentWhenOff_of_on {a : Apu} (h : a.master = true) : a.SilentWhenOff :=
  fun hoff => absurd (h.symm.trans hoff) (by decide)

theorem SoundWrite.silentWhenOff {a b : Apu} {v : Byte} (hw : SoundWrite a v b) (h : a.SilentWhenOff) :
    b.SilentWhenOff := by
  cases hw with
  | waveRam j | unchanged => exact h
  | powerOff => exact fun _ => ⟨rfl, rfl, rfl, rfl, rfl, rfl⟩
  | powerOn => exact Apu.silentWhenOff_of_on rfl
  | control k hm => exact Apu.silentWhenOff_of_on ((a.writeOn_frame k v).1.trans hm)
  | length k =>
    rw [a.writeLength_eq]
    exact h

/-- No write takes back audio, and a wave RAM in canonical form stays so. -/
theorem SoundWrite.pushed_waveRam {a b : Apu} {v : Byte} (hw : SoundWrite a v b) : b.pushed = a.pushed ∧
    (Memory.wf a.waveRam.cells → Memory.wf b.waveRam.cells) := by
  cases hw with
  | waveRam j => exact ⟨rfl, fun h => Memory.wf_put h j v⟩
  | unchanged | powerOff | powerOn => exact ⟨rfl, id⟩
  | control k =>
    obtain ⟨-, hw, hp⟩ := a.writeOn_frame k v
    exact ⟨hp, fun h => hw ▸ h⟩
  | length k =>
    rw [a.writeLength_eq]
    exact ⟨rfl, id⟩

/-! The registers on the bus. -/

theorem port_sound {k : Nat} (h : 0x10 ≤ k ∧ k < 0x40) : port k = .sound k := by
  simp (disch := omega) only [port, if_neg, if_pos]

section Sound
variable {a : Word} {k : Nat} (ha : a.toNat = 0xFF00 + k) (hk : 0x10 ≤ k ∧ k < 0x40)
include ha hk

/-- The sound range is routed to the APU by low byte (R70). -/
theorem route_sound : route a = .io k := route_eq_iff.2 ⟨by omega, by omega, by omega⟩

theorem read8_sound (s : State) : read8 s a = s.apu.read k := by
  simp only [read8_io (route_sound ha hk), readPort, port_sound hk]

theorem write8_sound (s : State) (v : Byte) : write8 s a v = { s with apu := s.apu.write k v } := by
  simp only [write8_io (route_sound ha hk), writePort, port_sound hk]

end Sound

theorem within_high_page {a : Word} {lo hi : Nat} (h : within (0xFF00 + lo) (0xFF00 + hi) a = true) :
    ∃ k, a.toNat = 0xFF00 + k ∧ lo ≤ k ∧ k < hi := by
  simp only [within, Bool.and_eq_true, decide_eq_true_eq] at h
  exact ⟨a.toNat - 0xFF00, by omega, by omega, by omega⟩

/-- The byte of NR52 by its five flags (R407). -/
theorem Apu.toNat_readNr52 (a : Apu) : a.readNr52.toNat = 128 * a.master.toNat + 0x70 + 8 * a.ch4.enabled.toNat +
    4 * a.ch3.enabled.toNat + 2 * a.ch2.enabled.toNat + a.ch1.enabled.toNat := by
  have hbits : ∀ m e4 e3 e2 e1 : Bool,
      (((((BitVec.ofBool m ++ 0b111#3) ++ BitVec.ofBool e4) ++ BitVec.ofBool e3) ++ BitVec.ofBool e2) ++
        BitVec.ofBool e1 : Byte).toNat =
      128 * m.toNat + 0x70 + 8 * e4.toNat + 4 * e3.toNat + 2 * e2.toNat + e1.toNat := by decide
  exact hbits _ _ _ _ _

theorem Apu.write_off {a : Apu} (hm : a.master = false) {k : Nat} (hk : k < 0x26) (v : Byte) :
    a.write k v = a.writeLength k v := by
  rw [Apu.write, if_neg (by omega), if_neg (by omega), hm, if_neg Bool.false_ne_true]

theorem Apu.write_waveRam (a : Apu) {k : Nat} (hk : 0x30 ≤ k) (v : Byte) :
    a.write k v = { a with waveRam := a.waveRam.write (k - 0x30) v } := if_pos hk

theorem Apu.read_waveRam (a : Apu) {k : Nat} (hk : 0x30 ≤ k) : a.read k = a.waveRam.read .waveRam (k - 0x30) :=
  if_pos hk

/-- An address of the high page is known by its low byte. -/
theorem eq_ofNat_iff {a : Word} {k j : Nat} (ha : a.toNat = 0xFF00 + k) (hj : j < 256) :
    a = BitVec.ofNat 16 (0xFF00 + j) ↔ k = j := by
  rw [← BitVec.toNat_inj, BitVec.toNat_ofNat]
  omega

/-- The three cases of a write to NR52 (R407). -/
theorem Apu.writeNr52_cases (a : Apu) (v : Byte) :
    (a.master = true ∧ v.getLsbD 7 = false → a.writeNr52 v = a.powerOff) ∧
      (a.master = false ∧ v.getLsbD 7 = true → a.writeNr52 v = a.powerOn) ∧
      (a.master = v.getLsbD 7 → a.writeNr52 v = a) := by
  unfold Apu.writeNr52
  cases a.master <;> cases v.getLsbD 7 <;> simp

/-- Settles O48: the addresses one by one for the length counters, and the switch by its two positions. -/
theorem apuSwitch : Obligations.ApuSwitch := by
  unfold Obligations.ApuSwitch
  rintro s a v t rfl
  refine ⟨?_, fun h => ?_, ?_, fun hm h => ?_, fun h => ?_⟩
  · rw [read8_sound (k := 0x26) (by decide) (by decide)]
    exact s.apu.toNat_readNr52
  · obtain ⟨k, ha, hk⟩ := within_high_page (lo := 0x10) (hi := 0x40) h
    rw [write8_sound ha hk]
  · rintro rfl
    rw [write8_sound (k := 0x26) (by decide) (by decide)]
    exact s.apu.writeNr52_cases v
  · obtain ⟨k, ha, hlo, hhi⟩ := within_high_page (lo := 0x10) (hi := 0x26) h
    rw [write8_sound ha ⟨hlo, by omega⟩, Apu.write_off hm hhi, Apu.writeLength_eq]
    have h11 := eq_ofNat_iff ha (by decide : 0x11 < 256)
    have h16 := eq_ofNat_iff ha (by decide : 0x16 < 256)
    have h1B := eq_ofNat_iff ha (by decide : 0x1B < 256)
    have h20 := eq_ofNat_iff ha (by decide : 0x20 < 256)
    simp only [← h11, ← h16, ← h1B, ← h20]
  · obtain ⟨k, ha, hlo, hhi⟩ := within_high_page (lo := 0x30) (hi := 0x40) h
    have hk : 0x10 ≤ k ∧ k < 0x40 := ⟨by omega, hhi⟩
    rw [write8_sound ha hk, read8_sound ha hk, Apu.write_waveRam _ hlo]
    exact ⟨(Apu.read_waveRam _ hlo).trans (Ram.read_write_same _ _ _ _), rfl⟩

/-! The frame sequencer (R411 to R415). -/

/-- What the sweep unit can do: it reaches channel 1 and itself alone, loads no counter and enables nothing (R415). -/
inductive SweepEffect (a : Apu) : Apu → Prop where
  | mk (w : Sweep) (f : BitVec 11) (e : Bool) (he : a.ch1.enabled = false → e = false)
      (hw : a.sweep.timer ≤ 8 → w.timer ≤ 8) :
      SweepEffect a { a with sweep := w, ch1 := { a.ch1 with freq := f, enabled := e } }

theorem Apu.sweepTick_effect (a : Apu) : SweepEffect a a.sweepTick := by
  have hdis : ∀ b, a.ch1.enabled = false → (a.ch1.enabled && b) = false := fun b h => by rw [h]; rfl
  simp only [Apu.sweepTick]
  split_ifs
  · exact .mk a.sweep a.ch1.freq _ (hdis _) id
  · exact .mk a.sweep a.ch1.freq _ id id
  · exact .mk _ _ _ (hdis _) id

theorem Apu.sweepClock_effect (a : Apu) : SweepEffect a a.sweepClock := by
  have hload : SweepEffect a { a with sweep := { a.sweep with timer := a.sweep.reload } } :=
    .mk { a.sweep with timer := a.sweep.reload } a.ch1.freq a.ch1.enabled id fun _ => a.sweep.reload_le
  simp only [Apu.sweepClock]
  split_ifs
  · generalize hq : Apu.sweepTick _ = q
    have htick := Apu.sweepTick_effect { a with sweep := { a.sweep with timer := a.sweep.reload } }
    rw [hq] at htick
    cases htick with
    | mk w f e he hw => exact .mk w f e he fun _ => hw a.sweep.reload_le
  · exact hload
  · exact .mk { a.sweep with timer := a.sweep.timer - 1 } a.ch1.freq a.ch1.enabled id fun h => (Nat.sub_le _ _).trans h

/-- What a phase of the sequencer clocks, by its number (R411). -/
inductive PhaseEffect (a : Apu) : Apu → Prop where
  | length (h : a.fsPhase.toNat = 0 ∨ a.fsPhase.toNat = 4) : PhaseEffect a a.lengthClock
  | sweep (h : a.fsPhase.toNat = 2 ∨ a.fsPhase.toNat = 6) : PhaseEffect a a.lengthClock.sweepClock
  | envelope (h : a.fsPhase.toNat = 7) : PhaseEffect a a.envelopeClock
  | nothing (h : a.fsPhase.toNat = 1 ∨ a.fsPhase.toNat = 3 ∨ a.fsPhase.toNat = 5) : PhaseEffect a a

theorem Apu.phaseAction_effect (a : Apu) : PhaseEffect a a.phaseAction := by
  have hlt := a.fsPhase.isLt
  unfold Apu.phaseAction
  split
  next h => exact .length (.inl h)
  next h => exact .sweep (.inl h)
  next h => exact .length (.inr h)
  next h => exact .sweep (.inr h)
  next h => exact .envelope h
  next h0 h2 h4 h6 h7 =>
    simp only [imp_false] at h0 h2 h4 h6 h7
    exact .nothing (by omega)

theorem Apu.Inv.lengthClock {a : Apu} (h : a.Inv) : a.lengthClock.Inv :=
  (((h.setCh1 h.ch1.lengthClock).setCh2 h.ch2.lengthClock).setCh3 h.ch3.lengthClock).setCh4 h.ch4.lengthClock

theorem SweepEffect.inv {a b : Apu} (hs : SweepEffect a b) (h : a.Inv) : b.Inv := by
  cases hs with
  | mk w f e he hw => exact (h.setSweep (hw h.sweep)).setCh1 h.ch1

theorem Apu.Inv.envelopeClock {a : Apu} (h : a.Inv) : a.envelopeClock.Inv :=
  ((h.setCh1 (c := { a.ch1 with env := a.ch1.env.clock }) ⟨h.ch1.1, h.ch1.2.clock⟩).setCh2
    (c := { a.ch2 with env := a.ch2.env.clock }) ⟨h.ch2.1, h.ch2.2.clock⟩).setCh4
    (c := { a.ch4 with env := a.ch4.env.clock }) ⟨h.ch4.1, h.ch4.2.clock⟩

theorem PhaseEffect.inv {a b : Apu} (hp : PhaseEffect a b) (h : a.Inv) : b.Inv := by
  cases hp with
  | length => exact h.lengthClock
  | sweep => exact a.lengthClock.sweepClock_effect.inv h.lengthClock
  | envelope => exact h.envelopeClock
  | nothing => exact h

theorem SweepEffect.frame {a b : Apu} (hs : SweepEffect a b) : b.fsAcc = a.fsAcc ∧ b.fsPhase = a.fsPhase ∧
    b.master = a.master ∧ b.waveRam = a.waveRam ∧ b.pushed = a.pushed := by
  cases hs
  exact ⟨rfl, rfl, rfl, rfl, rfl⟩

/-- A phase's action leaves the sequencer's own position, the switch, the wave RAM and the output. -/
theorem PhaseEffect.frame {a b : Apu} (hp : PhaseEffect a b) : b.fsAcc = a.fsAcc ∧ b.fsPhase = a.fsPhase ∧
    b.master = a.master ∧ b.waveRam = a.waveRam ∧ b.pushed = a.pushed := by
  cases hp with
  | sweep => exact a.lengthClock.sweepClock_effect.frame
  | length | envelope | nothing => exact ⟨rfl, rfl, rfl, rfl, rfl⟩

/-- An event of the sequencer (R411). -/
theorem Apu.frameSequencer_event {a : Apu} {n : Nat} (h : 8192 ≤ a.fsAcc + n) :
    a.frameSequencer n =
      { Apu.phaseAction { a with fsAcc := a.fsAcc + n - 8192 } with fsPhase := a.fsPhase + 1#3 } := by
  rw [Apu.frameSequencer, if_pos h]
  exact congrArg (fun k => { Apu.phaseAction { a with fsAcc := a.fsAcc + n - 8192 } with fsPhase := k + 1#3 })
    (Apu.phaseAction_effect _).frame.2.1

theorem Apu.frameSequencer_wait {a : Apu} {n : Nat} (h : ¬8192 ≤ a.fsAcc + n) :
    a.frameSequencer n = { a with fsAcc := a.fsAcc + n } := if_neg h

theorem Apu.Inv.frameSequencer {a : Apu} (h : a.Inv) {n : Nat} (hn : n ≤ 24) : (a.frameSequencer n).Inv := by
  obtain ⟨-, -, -, -, -, hf⟩ := a.inv_iff.1 h
  by_cases hev : 8192 ≤ a.fsAcc + n
  · rw [Apu.frameSequencer_event hev]
    have hp := (Apu.phaseAction_effect _).inv (h.setFs (by omega : a.fsAcc + n - 8192 < 8192) a.fsPhase)
    exact hp.setFs ((Apu.inv_iff _).1 hp).2.2.2.2.2 _
  · rw [Apu.frameSequencer_wait hev]
    exact h.setFs (by omega) a.fsPhase

theorem Apu.frameSequencer_frame (a : Apu) (n : Nat) : (a.frameSequencer n).master = a.master ∧
    (a.frameSequencer n).waveRam = a.waveRam ∧ (a.frameSequencer n).pushed = a.pushed := by
  by_cases hev : 8192 ≤ a.fsAcc + n
  · rw [Apu.frameSequencer_event hev]
    exact (Apu.phaseAction_effect _).frame.2.2
  · rw [Apu.frameSequencer_wait hev]
    exact ⟨rfl, rfl, rfl⟩

/-! The devices' T-cycles (R410). -/

/-- The output stage owns the resampler's state and only appends to the audio (R436, R438). -/
theorem Apu.resample_eq (par : Config.Audio) (depth : Nat) (l r : Rat) (n : Nat) (a : Apu) :
    ∃ (x y : Rat) (i p : Nat) (batch : List (Rat × Rat)) (pushed : List (List (BitVec 32))), a.pushed <+: pushed ∧
      a.resample par depth l r n =
        { a with rsL := x, rsR := y, rsN := i, rsPhase := p, batch := batch, pushed := pushed } := by
  refine ⟨_, _, _, _, _, _, ?_, rfl⟩
  split
  · exact List.prefix_append _ _
  · exact List.prefix_rfl

/-- A cycle of the APU is the generators' with the switch on, and then the output stage's. -/
theorem Apu.cycle_eq (par : Config.Audio) (depth n : Nat) (a : Apu) :
    ∃ (x y : Rat) (i p : Nat) (batch : List (Rat × Rat)) (pushed : List (List (BitVec 32))), a.pushed <+: pushed ∧
      a.cycle par depth n = { (if a.master then a.generate n else a) with
        rsL := x, rsR := y, rsN := i, rsPhase := p, batch := batch, pushed := pushed } := by
  have hp : (if a.master then a.generate n else a).pushed = a.pushed := by
    split
    · exact (a.frameSequencer_frame n).2.2
    · rfl
  rw [← hp]
  exact Apu.resample_eq par depth _ _ n _

theorem Apu.Inv.generate {a : Apu} (h : a.Inv) {n : Nat} (hn : n ≤ 24) : (a.generate n).Inv := by
  have hf := h.frameSequencer hn
  exact (((hf.setCh1 (c := (a.frameSequencer n).ch1.advance n) hf.ch1).setCh2
    (c := (a.frameSequencer n).ch2.advance n) hf.ch2).setCh3 (c := (a.frameSequencer n).ch3.advance n) hf.ch3).setCh4
    (c := (a.frameSequencer n).ch4.advance n) hf.ch4

theorem Apu.Inv.cycle {a : Apu} (h : a.Inv) (par : Config.Audio) (depth : Nat) {n : Nat} (hn : n ≤ 24) :
    (a.cycle par depth n).Inv := by
  obtain ⟨x, y, i, p, batch, pushed, -, he⟩ := Apu.cycle_eq par depth n a
  have hg : Apu.Inv (if a.master then a.generate n else a) := by
    split
    · exact h.generate hn
    · exact h
  rw [he]
  exact hg

theorem Apu.SilentWhenOff.cycle {a : Apu} (h : a.SilentWhenOff) (par : Config.Audio) (depth n : Nat) :
    (a.cycle par depth n).SilentWhenOff := by
  obtain ⟨x, y, i, p, batch, pushed, -, he⟩ := Apu.cycle_eq par depth n a
  rw [he]
  cases hm : a.master with
  | false => exact h
  | true => exact silentWhenOff_of_on ((a.frameSequencer_frame n).1.trans hm)

/-- No cycle takes back audio, and none writes the wave RAM. -/
theorem Apu.cycle_pushed (par : Config.Audio) (depth n : Nat) (a : Apu) :
    a.pushed <+: (a.cycle par depth n).pushed ∧ (a.cycle par depth n).waveRam = a.waveRam := by
  obtain ⟨x, y, i, p, batch, pushed, hp, he⟩ := Apu.cycle_eq par depth n a
  rw [he]
  refine ⟨hp, ?_⟩
  show (if a.master then a.generate n else a).waveRam = a.waveRam
  split
  · exact (a.frameSequencer_frame n).2.1
  · rfl

/-- Settles O57: resets, register writes and cycles of at most 24 T-cycles keep both invariants. -/
theorem apuStaysInRange : Obligations.ApuStaysInRange := by
  unfold Obligations.ApuStaysInRange
  intro s t hi hq h
  refine step_apu_invariant h (fun a => a.Inv ∧ a.SilentWhenOff) ?_ ?_ ?_ ⟨hi, hq⟩
  · intro x epoch _
    refine ⟨?_, Apu.silentWhenOff_of_on rfl⟩
    show Apu.Inv { Apu.reset 0 with pushed := [] }
    unfold Apu.Inv
    decide
  · exact fun x k v ⟨h1, h2⟩ => ⟨(x.write_soundWrite k v).inv h1, (x.write_soundWrite k v).silentWhenOff h2⟩
  · exact fun x depth n hn ⟨h1, h2⟩ => ⟨h1.cycle _ depth hn, h2.cycle _ depth n⟩

/-! The sequencer seen from a cycle (O49). -/

/-- The fields the sequencer owns agree: the generators and the output stage leave them. -/
structure Apu.SameCounters (f b : Apu) : Prop where
  acc : b.fsAcc = f.fsAcc
  phase : b.fsPhase = f.fsPhase
  sweep : b.sweep = f.sweep
  length1 : b.ch1.length = f.ch1.length
  length2 : b.ch2.length = f.ch2.length
  length3 : b.ch3.length = f.ch3.length
  length4 : b.ch4.length = f.ch4.length
  enabled1 : b.ch1.enabled = f.ch1.enabled
  enabled2 : b.ch2.enabled = f.ch2.enabled
  enabled3 : b.ch3.enabled = f.ch3.enabled
  enabled4 : b.ch4.enabled = f.ch4.enabled
  env4 : b.ch4.env = f.ch4.env

theorem Apu.cycle_sameCounters (par : Config.Audio) (depth n : Nat) {a : Apu} (hm : a.master = true) :
    Apu.SameCounters (a.frameSequencer n) (a.cycle par depth n) := by
  obtain ⟨x, y, i, p, batch, pushed, -, he⟩ := Apu.cycle_eq par depth n a
  rw [he, if_pos hm]
  exact ⟨rfl, rfl, rfl, rfl, rfl, rfl, rfl, rfl, rfl, rfl, rfl, rfl⟩

/-- A length clock of a channel that counts (R412). -/
theorem length_counting {en : Bool} {length : Nat} (h : en = true ∧ 0 < length) (enabled : Bool) :
    lengthNext en length = length - 1 ∧ enabledNext enabled en length = (enabled && decide (length ≠ 1)) := by
  obtain ⟨rfl, -⟩ := h
  exact ⟨rfl, congrArg (enabled && ·) (decide_not (p := length = 1)).symm⟩

/-- A length clock of a channel that does not count (R412). -/
theorem length_idle {en : Bool} {length : Nat} (h : en = false ∨ length = 0) (enabled : Bool) :
    lengthNext en length = length ∧ enabledNext enabled en length = enabled := by
  rcases h with rfl | rfl
  · exact ⟨rfl, Bool.and_true _⟩
  · have hone : (0 == 1) = false := rfl
    exact ⟨ite_self 0, by rw [enabledNext, hone, Bool.and_false, Bool.not_false, Bool.and_true]⟩

/-- An even phase clocks the length counters, an odd one does not; channel 1's flag may fall further, by the sweep
(R411, R412). -/
theorem PhaseEffect.lengths {a b : Apu} (hp : PhaseEffect a b) {even : Bool}
    (h : even = decide (a.fsPhase.toNat % 2 = 0)) :
    b.ch1.length = lengthNext (even && a.ch1.lengthEn) a.ch1.length ∧
      (enabledNext a.ch1.enabled (even && a.ch1.lengthEn) a.ch1.length = false → b.ch1.enabled = false) ∧
      (b.ch2.length = lengthNext (even && a.ch2.lengthEn) a.ch2.length ∧
        b.ch2.enabled = enabledNext a.ch2.enabled (even && a.ch2.lengthEn) a.ch2.length) ∧
      (b.ch3.length = lengthNext (even && a.ch3.lengthEn) a.ch3.length ∧
        b.ch3.enabled = enabledNext a.ch3.enabled (even && a.ch3.lengthEn) a.ch3.length) ∧
      (b.ch4.length = lengthNext (even && a.ch4.lengthEn) a.ch4.length ∧
        b.ch4.enabled = enabledNext a.ch4.enabled (even && a.ch4.lengthEn) a.ch4.length) := by
  cases hp with
  | length he =>
    obtain rfl : even = true := h.trans (decide_eq_true (by omega))
    exact ⟨rfl, id, ⟨rfl, rfl⟩, ⟨rfl, rfl⟩, rfl, rfl⟩
  | sweep he =>
    obtain rfl : even = true := h.trans (decide_eq_true (by omega))
    have hs := a.lengthClock.sweepClock_effect
    generalize a.lengthClock.sweepClock = q at hs
    cases hs with
    | mk w f e hen hw => exact ⟨rfl, hen, ⟨rfl, rfl⟩, ⟨rfl, rfl⟩, rfl, rfl⟩
  | envelope ho | nothing ho =>
    obtain rfl : even = false := h.trans (decide_eq_false (by omega))
    have hid : ∀ e : Bool, e = (e && true) := fun e => (Bool.and_true e).symm
    exact ⟨rfl, (hid _).trans, ⟨rfl, hid _⟩, ⟨rfl, hid _⟩, rfl, hid _⟩

theorem Apu.phaseAction_seven {a : Apu} (h : a.fsPhase.toNat = 7) : a.phaseAction.ch4.env = a.ch4.env.clock := by
  rw [Apu.phaseAction, h]
  rfl

/-- An envelope clock before the envelope's timer runs out (R413). -/
theorem Envelope.clock_wait {e : Envelope} (hr : e.running = true) (hp : 0 < e.period.toNat) (ht : 1 < e.timer) :
    e.clock = { e with timer := e.timer - 1 } := by
  have hp' : e.period ≠ 0#3 := fun h => by simp [h] at hp
  rw [Envelope.clock, if_pos ⟨hp', hr⟩, if_neg (by omega)]

/-- An envelope clock when it runs out: a step of the volume, or the end at either limit (R413). -/
theorem Envelope.clock_adjust {e : Envelope} (hv : e.volume ≤ 15) (hr : e.running = true) (hp : 0 < e.period.toNat)
    (ht : e.timer ≤ 1) : e.clock = { e with
      timer := e.period.toNat,
      volume := if e.up then min 15 (e.volume + 1) else e.volume - 1,
      running := if e.up then decide (e.volume < 15) else decide (0 < e.volume) } := by
  have hp' : e.period ≠ 0#3 := fun h => by simp [h] at hp
  rw [Envelope.clock, if_pos ⟨hp', hr⟩, if_pos (by omega)]
  obtain ⟨init, up, period, volume, timer, running⟩ := e
  obtain rfl : running = true := hr
  unfold Envelope.adjust
  dsimp only at hv ⊢
  cases up with
  | true =>
    by_cases hlt : volume < 15
    · simp [hlt]
    · obtain rfl : volume = 15 := by omega
      rfl
  | false =>
    by_cases hlt : 0 < volume
    · simp [hlt]
    · obtain rfl : volume = 0 := by omega
      rfl

/-- A sweep tick whose candidate overflows disables channel 1 (R415). -/
theorem Apu.sweepClock_overflow {a : Apu} {w : Sweep} (hw : a.sweep = w) (ht : w.timer ≤ 1) (hen : w.enabled = true)
    (hp : 0 < w.period.toNat) (hup : w.down = false)
    (hov : 2047 < w.shadow.toNat + w.shadow.toNat / 2 ^ w.shift.toNat) : a.sweepClock.ch1.enabled = false := by
  have hp' : w.period ≠ 0#3 := fun h => by simp [h] at hp
  have hc : 2047 < Sweep.candidate { w with timer := w.reload } := by
    simp only [Sweep.candidate, hup]
    exact hov
  simp only [Apu.sweepClock, hw]
  rw [if_pos (by omega), if_pos ⟨hen, hp'⟩, Apu.sweepTick]
  dsimp only
  rw [if_pos hc]
  exact Bool.and_false _

theorem Apu.lengthClock_sweep (a : Apu) : a.lengthClock.sweep = a.sweep := by
  simp only [Apu.lengthClock]

theorem Apu.phaseAction_sweep {a : Apu} (h : a.fsPhase.toNat = 2 ∨ a.fsPhase.toNat = 6) :
    a.phaseAction = a.lengthClock.sweepClock := by
  unfold Apu.phaseAction
  rcases h with h | h <;> simp only [h]

/-- Settles O49: an even phase, an odd phase and phase 7 of the sequencer's event, seen through the cycle. -/
theorem frameSequencer : Obligations.FrameSequencer := by
  unfold Obligations.FrameSequencer
  rintro par depth n a b hi hm - rfl
  have hb := Apu.cycle_sameCounters par depth n hm
  generalize a.cycle par depth n = b at hb
  refine ⟨fun hlt => ?_, fun hev => ?_⟩
  · rw [Apu.frameSequencer_wait (by omega)] at hb
    exact ⟨hb.acc, hb.phase, hb.length2, hb.length3, hb.length4, hb.env4, hb.sweep, hb.enabled1⟩
  rw [Apu.frameSequencer_event hev] at hb
  -- the phase acts with the accumulator already reduced
  generalize a.fsAcc + n - 8192 = acc at hb ⊢
  obtain ⟨hacc, -⟩ := (Apu.phaseAction_effect { a with fsAcc := acc }).frame
  obtain ⟨even, heven⟩ : ∃ even, even = decide (a.fsPhase.toNat % 2 = 0) := ⟨_, rfl⟩
  obtain ⟨l1, e1, ⟨l2, e2⟩, ⟨l3, e3⟩, l4, e4⟩ := (Apu.phaseAction_effect { a with fsAcc := acc }).lengths heven
  dsimp only at l1 e1 l2 e2 l3 e3 l4 e4
  have hidle : ∀ {en : Bool} {length : Nat}, a.fsPhase.toNat % 2 = 1 ∨ en = false ∨ length = 0 →
      (even && en) = false ∨ length = 0 := by
    rintro en length (ho | rfl | h)
    · rw [heven, decide_eq_false (by omega)]
      exact .inl rfl
    · exact .inl (Bool.and_false _)
    · exact .inr h
  refine ⟨hb.acc.trans hacc, ?_, fun he => ?_, fun h => ?_, fun h => ?_, fun h => ?_, fun h => ?_, ?_, ?_⟩
  · rw [hb.phase]
    exact BitVec.toNat_add _ _
  · obtain rfl : even = true := heven.trans (decide_eq_true he)
    refine ⟨fun h => ?_, fun h => ?_, fun h => ?_, fun h => ?_⟩
    · obtain ⟨hl, he⟩ := length_counting h a.ch1.enabled
      refine ⟨hb.length1.trans (l1.trans hl), fun hone => hb.enabled1.trans (e1 (he.trans ?_))⟩
      rw [hone]
      exact Bool.and_false _
    · obtain ⟨hl, he⟩ := length_counting h a.ch2.enabled
      exact ⟨hb.length2.trans (l2.trans hl), hb.enabled2.trans (e2.trans he)⟩
    · obtain ⟨hl, he⟩ := length_counting h a.ch3.enabled
      exact ⟨hb.length3.trans (l3.trans hl), hb.enabled3.trans (e3.trans he)⟩
    · obtain ⟨hl, he⟩ := length_counting h a.ch4.enabled
      exact ⟨hb.length4.trans (l4.trans hl), hb.enabled4.trans (e4.trans he)⟩
  · exact hb.length1.trans (l1.trans (length_idle (hidle h) false).1)
  · obtain ⟨hl, he⟩ := length_idle (hidle h) a.ch2.enabled
    exact ⟨hb.length2.trans (l2.trans hl), hb.enabled2.trans (e2.trans he)⟩
  · obtain ⟨hl, he⟩ := length_idle (hidle h) a.ch3.enabled
    exact ⟨hb.length3.trans (l3.trans hl), hb.enabled3.trans (e3.trans he)⟩
  · obtain ⟨hl, he⟩ := length_idle (hidle h) a.ch4.enabled
    exact ⟨hb.length4.trans (l4.trans hl), hb.enabled4.trans (e4.trans he)⟩
  · rintro ⟨h7, hrun, hper⟩
    have henv : b.ch4.env = a.ch4.env.clock := hb.env4.trans (Apu.phaseAction_seven h7)
    rw [henv]
    exact ⟨fun ht => Envelope.clock_wait hrun hper ht, fun ht => Envelope.clock_adjust hi.ch4.2.1 hrun hper ht⟩
  · intro h26 ht hen hper hup hov
    have hdis : (Apu.phaseAction { a with fsAcc := acc }).ch1.enabled = false := by
      rw [Apu.phaseAction_sweep (a := { a with fsAcc := acc }) h26]
      exact Apu.sweepClock_overflow (Apu.lengthClock_sweep _) ht hen hper hup hov
    exact hb.enabled1.trans hdis

end Sys2Proof.Machine
end

section
/-! The Joypad's register and its interrupt (60_exceptions.md R304, R305), and the sources each device raises (R286,
R303). -/

namespace Sys2Proof.Machine

open Sys2Proof

/-! P1 (R304). -/

theorem read8_joypad (s : State) : read8 s 0xFF00#16 = s.joypad.read := by
  have hr : route 0xFF00#16 = .io 0x00 := by decide
  have hp : port 0x00 = .joypad := by decide
  simp only [read8_io hr, readPort, hp]

theorem write8_joypad (s : State) (v : Byte) : write8 s 0xFF00#16 v = { s with joypad := s.joypad.write v } := by
  have hr : route 0xFF00#16 = .io 0x00 := by decide
  have hp : port 0x00 = .joypad := by decide
  simp only [write8_io hr, writePort, hp]

/-- The bits of a nibble written out. -/
theorem nibble_getLsbD (d c b a : Bool) {k : Nat} (hk : k < 4) :
    (BitVec.ofBool d ++ BitVec.ofBool c ++ BitVec.ofBool b ++ BitVec.ofBool a : BitVec 4).getLsbD k =
      if k = 0 then a else if k = 1 then b else if k = 2 then c else d := by
  have hall : ∀ (d c b a : Bool) (k : Fin 4),
      (BitVec.ofBool d ++ BitVec.ofBool c ++ BitVec.ofBool b ++ BitVec.ofBool a : BitVec 4).getLsbD k =
        if k.val = 0 then a else if k.val = 1 then b else if k.val = 2 then c else d := by decide
  exact hall d c b a ⟨k, hk⟩

/-- A line is low while a button of a selected group pulls it (R304). -/
theorem Joypad.lines_getLsbD (j : Joypad) {k : Nat} (hk : k < 4) : j.lines.getLsbD k =
    !((!j.select.getLsbD 0 && (if k = 0 then j.buttons.right else if k = 1 then j.buttons.left
        else if k = 2 then j.buttons.up else j.buttons.down)) ||
      (!j.select.getLsbD 1 && (if k = 0 then j.buttons.a else if k = 1 then j.buttons.b
        else if k = 2 then j.buttons.select else j.buttons.start))) := by
  have hones : (0xF#4).getLsbD k = true := by interval_cases k <;> rfl
  unfold Joypad.lines
  rw [← nibble_getLsbD _ _ _ _ hk, ← nibble_getLsbD _ _ _ _ hk]
  cases j.select.getLsbD 0 <;> cases j.select.getLsbD 1 <;>
    simp only [if_true, Bool.false_eq_true, if_false, BitVec.getLsbD_and, BitVec.getLsbD_not, hones, hk, decide_true,
      Bool.true_and, Bool.not_true, Bool.not_false, Bool.false_and, Bool.or_false, Bool.false_or, Bool.not_or]

/-- The upper nibble of P1: the select bits as written, and two unimplemented bits. -/
theorem Joypad.read_getLsbD (j : Joypad) {k : Nat} (hk : k < 8) : j.read.getLsbD k =
    if k < 4 then j.lines.getLsbD k else if k = 4 then j.select.getLsbD 0 else if k = 5 then j.select.getLsbD 1
    else true := by
  rw [Joypad.read, BitVec.getLsbD_append, BitVec.getLsbD_append]
  by_cases hlow : k < 4
  · rw [if_pos hlow, if_pos hlow]
  · have hge : 4 ≤ k := Nat.le_of_not_lt hlow
    interval_cases k <;> rfl

/-! The edges (R305). -/

/-- The lines that fall, from the bytes read before and after. -/
theorem fallen_lines (a b x y : BitVec 4) :
    (a ++ x : Byte) &&& ~~~(b ++ y : Byte) &&& 0x0F#8 = 0#8 ↔ x &&& ~~~y = 0#4 := by
  have hparts : (a ++ x : Byte) &&& ~~~(b ++ y : Byte) &&& 0x0F#8 = (0#4 ++ (x &&& ~~~y) : Byte) := by
    have hmask : (0x0F#8 : Byte) = (0#4 ++ 0xF#4 : Byte) := rfl
    rw [hmask, BitVec.not_append, BitVec.and_append, BitVec.and_append, BitVec.and_zero]
    exact congrArg (fun z : BitVec 4 => (0#4 ++ z : Byte)) (BitVec.and_allOnes)
  rw [hparts]
  constructor
  · intro h
    have hlow := congrArg (fun z : Byte => z.extractLsb' 0 4) h
    rwa [low_append] at hlow
  · intro h
    rw [h]
    rfl

theorem Joypad.edgeFrom_frame (old : BitVec 4) (j : Joypad) : (Joypad.edgeFrom old j).select = j.select ∧
    (Joypad.edgeFrom old j).buttons = j.buttons ∧ (Joypad.edgeFrom old j).lines = j.lines := by
  unfold Joypad.edgeFrom
  split <;> exact ⟨rfl, rfl, rfl⟩

/-- New inputs of the Joypad raise its request if the bytes read say that a line fell. -/
theorem Joypad.edgeFrom_intMask (j j' : Joypad) : (Joypad.edgeFrom j.lines j').intMask =
    if j.read &&& ~~~(Joypad.edgeFrom j.lines j').read &&& 0x0F#8 = 0#8 then j'.intMask
    else j'.intMask ||| 0b10000#5 := by
  obtain ⟨hs, -, hl⟩ := Joypad.edgeFrom_frame j.lines j'
  have hfall : j.read &&& ~~~(Joypad.edgeFrom j.lines j').read &&& 0x0F#8 = 0#8 ↔ j.lines &&& ~~~j'.lines = 0#4 := by
    rw [Joypad.read, Joypad.read, hs, hl]
    exact fallen_lines _ _ _ _
  simp only [hfall]
  unfold Joypad.edgeFrom
  split <;> rfl

theorem extractLsb_four_two (v : Byte) : v.extractLsb' 4 2 = BitVec.ofNat 2 (v.toNat / 16 % 4) := by
  apply BitVec.eq_of_toNat_eq
  simp [BitVec.extractLsb'_toNat, Nat.shiftRight_eq_div_pow]

/-- Settles O50: P1 by its bits, and both ways to change the inputs by the one edge. -/
theorem joypadLines : Obligations.JoypadLines := by
  unfold Obligations.JoypadLines
  intro s v b
  refine ⟨fun k hk => ?_, fun t ht => ?_, ?_, ?_, ?_, ?_⟩
  · rw [read8_joypad, Joypad.read_getLsbD _ hk]
    by_cases hlow : k < 4
    · rw [if_pos hlow, Joypad.lines_getLsbD _ hlow]
      interval_cases k <;> rfl
    · simp (disch := omega) only [if_neg]
  · obtain ⟨j', hm, rfl⟩ : ∃ j' : Joypad, j'.intMask = s.joypad.intMask ∧
        t = { s with joypad := Joypad.edgeFrom s.joypad.lines j' } := by
      rcases ht with rfl | rfl
      · exact ⟨{ s.joypad with select := v.extractLsb' 4 2 }, rfl, write8_joypad s v⟩
      · exact ⟨{ s.joypad with buttons := b }, rfl, rfl⟩
    rw [read8_joypad, read8_joypad, ← hm]
    exact ⟨rfl, Joypad.edgeFrom_intMask _ _⟩
  · rw [write8_joypad, ← extractLsb_four_two]
    exact (Joypad.edgeFrom_frame _ _).1
  · rw [write8_joypad]
    exact (Joypad.edgeFrom_frame _ _).2.1
  · exact (Joypad.edgeFrom_frame _ _).1
  · exact (Joypad.edgeFrom_frame _ _).2.1

/-! The sources of each device (R286). -/

/-- A mask within the sources `b` stays so when sources of `b` are requested. -/
theorem within_or {m b c : BitVec 5} (hm : m &&& ~~~b = 0#5) (hc : c &&& ~~~b = 0#5) : (m ||| c) &&& ~~~b = 0#5 := by
  rw [BitVec.and_or_distrib_right, hm, hc, BitVec.or_zero]

theorem within_getLsbD {m b : BitVec 5} (hm : m &&& ~~~b = 0#5) {k : Nat} (hb : b.getLsbD k = false) :
    m.getLsbD k = false := by
  by_cases hk : k < 5
  · have hbit : (m &&& ~~~b).getLsbD k = false := by rw [hm, BitVec.getLsbD_zero]
    rwa [BitVec.getLsbD_and, BitVec.getLsbD_not, hb, decide_eq_true hk, Bool.not_false, Bool.and_true, Bool.and_true]
      at hbit
  · exact BitVec.getLsbD_of_ge _ k (Nat.le_of_not_lt hk)

theorem bumpIf_within {t : Timer} (h : t.intMask &&& ~~~0b00100#5 = 0#5) (fell : Bool) :
    (bumpIf fell t).intMask &&& ~~~0b00100#5 = 0#5 := by
  unfold bumpIf
  split_ifs
  · exact h
  · exact within_or h (by decide)
  · exact h

theorem Timer.write_within {t : Timer} (h : t.intMask &&& ~~~0b00100#5 = 0#5) (k : Nat) (v : Byte) :
    (t.write k v).intMask &&& ~~~0b00100#5 = 0#5 := by
  unfold Timer.write
  split
  · rw [Timer.writeDiv, Timer.edgeFrom_eq_bumpIf]
    exact bumpIf_within (t := { t with div16 := 0x0000#16 }) h _
  · exact h
  · exact h
  · rw [Timer.writeTac, Timer.edgeFrom_eq_bumpIf]
    exact bumpIf_within (t := { t with tac := v.extractLsb' 0 3 }) h _

theorem Timer.cycle_within {t : Timer} (h : t.intMask &&& ~~~0b00100#5 = 0#5) (n : Nat) :
    (t.cycle n).intMask &&& ~~~0b00100#5 = 0#5 := by
  rw [Timer.cycle_eq_after, Timer.after]
  dsimp only
  split
  · exact h
  · exact within_or h (by decide)

theorem PpuRaised.within {m m' : BitVec 5} (h : PpuRaised m m') (hm : m &&& ~~~0b00011#5 = 0#5) :
    m' &&& ~~~0b00011#5 = 0#5 := by
  have hown : ∀ b : BitVec 2, b.setWidth 5 &&& ~~~0b00011#5 = 0#5 := by decide
  obtain ⟨b, rfl⟩ := h
  exact within_or hm (hown b)

theorem Ppu.cycle_within {p : Ppu} (h : p.intMask &&& ~~~0b00011#5 = 0#5) (n : Nat) :
    (p.cycle n).intMask &&& ~~~0b00011#5 = 0#5 := by
  refine Ppu.cycle_invariant (fun p => p.intMask &&& ~~~0b00011#5 = 0#5) (fun p q _ hdot hp => ?_) h n
  obtain ⟨-, -, -, -, hr, -⟩ := hdot.frame
  exact hr.within hp

/-- No register write of the PPU requests an interrupt (R354). -/
theorem Ppu.write_intMask (p : Ppu) (k : Nat) (v : Byte) : (p.write k v).intMask = p.intMask := by
  unfold Ppu.write
  split
  · unfold Ppu.writeLcdc
    split_ifs <;> rfl
  all_goals rfl

theorem Joypad.edgeFrom_within {j : Joypad} (h : j.intMask &&& ~~~0b10000#5 = 0#5) (old : BitVec 4) :
    (Joypad.edgeFrom old j).intMask &&& ~~~0b10000#5 = 0#5 := by
  unfold Joypad.edgeFrom
  split
  · exact h
  · exact within_or h (by decide)

theorem step_masksInRange {s t : State} (hs : s.MasksInRange) (h : step s = .next t) : t.MasksInRange := by
  obtain ⟨ht, hp, hj⟩ := hs
  refine ⟨?_, ?_, ?_⟩
  · exact step_timer_invariant h (fun x => x.intMask &&& ~~~0b00100#5 = 0#5) rfl
      (fun _ k v hx => Timer.write_within hx k v) (fun _ _ _ => BitVec.zero_and) ht
  · refine step_ppu_invariant h (fun x => x.intMask &&& ~~~0b00011#5 = 0#5) (fun _ => BitVec.zero_and) (fun _ hx => hx)
      (fun x k v hx => ?_) (fun _ _ _ _ _ hx => hx) (fun _ _ _ => BitVec.zero_and) hp
    rw [x.write_intMask]
    exact hx
  · exact step_joypad_invariant h (fun x => x.intMask &&& ~~~0b10000#5 = 0#5) rfl
      (fun x v hx => Joypad.edgeFrom_within (j := { x with select := v.extractLsb' 4 2 }) hx _)
      (fun x b hx => Joypad.edgeFrom_within (j := { x with buttons := b }) hx _) (fun _ _ => BitVec.zero_and) hj

/-- Settles O59: the masks keep to their own sources, none of which is Serial. -/
theorem serialNeverRaised : Obligations.SerialNeverRaised := by
  unfold Obligations.SerialNeverRaised
  refine ⟨fun s t => step_masksInRange, fun s n ⟨ht, hp, hj⟩ => ?_⟩
  rw [busCycle_bus]
  simp only [BitVec.getLsbD_or, within_getLsbD (k := 3) (Timer.cycle_within ht n) rfl,
    within_getLsbD (k := 3) (Ppu.cycle_within hp n) rfl, within_getLsbD (k := 3) hj rfl, Bool.or_false]

end Sys2Proof.Machine
end

section
/-! The invariants of a whole step that speak of several owners of state, and of the cartridge. -/

namespace Sys2Proof.Machine

open Sys2Proof

/-! The cartridge (21_cartridge.md R103). -/

theorem bankOrOne_ne_zero {n : Nat} (hn : 0 < n) (v : BitVec n) : bankOrOne v ≠ 0#n := by
  unfold bankOrOne
  split
  · exact fun h => absurd (BitVec.one_eq_zero_iff.1 h) (by omega)
  · assumption

theorem Mbc.BankNonzero.write {m : Mbc} (h : m.BankNonzero) (addr : Nat) (v : Byte) : (m.write addr v).BankNonzero := by
  cases m with
  | none => trivial
  | mbc1 en lo hi mode =>
    simp only [Mbc.write]
    split_ifs
    · exact h
    · exact bankOrOne_ne_zero (by decide : 0 < 5) _
    · exact h
    · exact h
  | mbc2 en bank =>
    simp only [Mbc.write]
    split_ifs
    · exact h
    · exact bankOrOne_ne_zero (by decide : 0 < 4) _
    · exact h
  | mbc3 en bank sel prev rtc latched =>
    simp only [Mbc.write]
    split_ifs
    · exact h
    · exact bankOrOne_ne_zero (by decide : 0 < 7) _
    · exact h
    · exact h
    · exact h

theorem Mbc.bankNonzero_reset (m : Mbc) : m.reset.BankNonzero := by
  cases m with
  | none => trivial
  | mbc1 => exact (by decide : 1#5 ≠ 0#5)
  | mbc2 => exact (by decide : 1#4 ≠ 0#4)
  | mbc3 => exact (by decide : 1#7 ≠ 0#7)

theorem Mbc.BankNonzero.setClock {m : Mbc} (h : m.BankNonzero) (i : Nat) (v : Byte) : (m.setClock i v).BankNonzero := by
  cases m <;> exact h

/-- No controller puts bank 0 in the switchable window (R103). -/
theorem Mbc.BankNonzero.one_le_romBank {m : Mbc} (h : m.BankNonzero) : 1 ≤ m.romBank := by
  have hpos : ∀ {n : Nat} {x : BitVec n}, x ≠ 0#n → 1 ≤ x.toNat := fun hx =>
    Nat.one_le_iff_ne_zero.2 fun hz => hx (BitVec.eq_of_toNat_eq hz)
  cases m with
  | none => exact le_rfl
  | mbc1 en lo hi mode =>
    have hlo := hpos h
    simp only [Mbc.romBank]
    split
    · exact hlo
    · omega
  | mbc2 en bank => exact hpos h
  | mbc3 en bank sel prev rtc latched => exact hpos h

theorem Mbc.romBank_setClock (m : Mbc) (i : Nat) (v : Byte) : (m.setClock i v).romBank = m.romBank := by
  cases m <;> rfl

/-- A write to the external RAM's window reaches the RAM or a clock register (R107, R112, R115). -/
theorem Cart.writeRam_eq (k : Cart) (addr : Nat) (v : Byte) :
    ∃ (m : Mbc) (r : Ram) (d : Bool), k.writeRam addr v = { k with mbc := m, ram := r, dirty := d } ∧
      (k.mbc.BankNonzero → m.BankNonzero) ∧ (Memory.wf k.ram.cells → Memory.wf r.cells) ∧
      m.romBank = k.mbc.romBank := by
  unfold Cart.writeRam
  split
  · exact ⟨k.mbc, k.ram, k.dirty, rfl, id, id, rfl⟩
  · exact ⟨k.mbc, _, true, rfl, id, fun h => Memory.wf_put h _ _, rfl⟩
  · exact ⟨k.mbc, _, true, rfl, id, fun h => Memory.wf_put h _ _, rfl⟩
  · exact ⟨_, k.ram, k.dirty, rfl, fun h => h.setClock _ v, id, k.mbc.romBank_setClock _ v⟩

/-- What every step keeps of a cartridge that began as `k`: its ROM, its sizes, and a nonzero bank. -/
def Cart.SoundSince (k x : Cart) : Prop :=
  x.mbc.BankNonzero ∧ x.rom = k.rom ∧ x.romLen = k.romLen ∧ x.ramLen = k.ramLen

/-- Settles O58: of the cartridge's operations only the register write loads a bank, and never zero. -/
theorem cartridgeStaysSound : Obligations.CartridgeStaysSound := by
  unfold Obligations.CartridgeStaysSound
  intro s t hs h
  have hsound : s.cart.SoundSince t.cart := by
    refine step_cart_invariant h s.cart.SoundSince ?_ (fun _ _ hx => hx) (fun _ hx => hx) ?_ ?_ ⟨hs, rfl, rfl, rfl⟩
    · exact fun x ⟨_, hrest⟩ => ⟨x.mbc.bankNonzero_reset, hrest⟩
    · exact fun x a v ⟨hb, hrest⟩ => ⟨hb.write a v, hrest⟩
    · rintro x a v ⟨hb, hrest⟩
      obtain ⟨m, r, d, he, hm, -⟩ := x.writeRam_eq a v
      rw [he]
      exact ⟨hm hb, hrest⟩
  obtain ⟨hb, hrom, hlen, hram⟩ := hsound
  exact ⟨hb, hb.one_le_romBank, hrom, hlen, hram⟩

/-! The byte stores (10_state.md section 5). -/

/-- Settles O55: each owner keeps its own stores and buffers in canonical form. -/
theorem memoriesStayCanonical : Obligations.MemoriesStayCanonical := by
  unfold Obligations.MemoriesStayCanonical
  rintro s t ⟨hwram, hhram, hvram, hoam, hwave, hram, hrom⟩ hfb hci hinv h
  obtain ⟨hwram', hhram'⟩ := step_bus_wf h ⟨hwram, hhram⟩
  obtain ⟨-, hvram', hoam', hfb', hci'⟩ := step_ppu_canonical h ⟨hinv, hvram, hoam, hfb, hci⟩
  have hwave' : Memory.wf t.apu.waveRam.cells := by
    refine step_apu_invariant h (fun x => Memory.wf x.waveRam.cells) (fun _ _ _ => List.Pairwise.nil)
      (fun x k v hx => (x.write_soundWrite k v).pushed_waveRam.2 hx) (fun x depth n _ hx => ?_) hwave
    rw [(Apu.cycle_pushed Config.audio depth n x).2]
    exact hx
  have hcart : Memory.wf t.cart.ram.cells ∧ Memory.wf t.cart.rom := by
    refine step_cart_invariant h (fun x => Memory.wf x.ram.cells ∧ Memory.wf x.rom) (fun _ hx => hx)
      (fun x data hx => ⟨Memory.wf_overwrite hx.1 _, hx.2⟩) (fun _ hx => hx) (fun _ _ _ hx => hx) ?_ ⟨hram, hrom⟩
    rintro x a v ⟨hx, hxrom⟩
    obtain ⟨m, r, d, he, -, hr, -⟩ := x.writeRam_eq a v
    rw [he]
    exact ⟨hr hx, hxrom⟩
  exact ⟨⟨hwram', hhram', hvram', hoam', hwave', hcart⟩, hfb', hci'⟩

/-- Settles O60: `State.reset` is a literal, whose stores are empty. -/
theorem invariantsAtReset : Obligations.InvariantsAtReset := by
  unfold Obligations.InvariantsAtReset
  have hnil : Memory.wf [] := List.Pairwise.nil
  refine ⟨rfl, ⟨hnil, hnil, hnil, hnil, hnil, hnil, hnil⟩, Rows.canonical_nil, Rows.canonical_nil, Ppu.inv_reset 0,
    ?_, Apu.silentWhenOff_of_on rfl, trivial, rfl, rfl, rfl⟩
  unfold Apu.Inv
  decide

/-! A step completes (20_memory.md section 5). -/

/-- Every step keeps what was handed to the sink (63_apu.md R440). -/
theorem step_pushed {s t : State} (h : step s = .next t) : s.apu.pushed <+: t.apu.pushed := by
  refine step_apu_invariant h (fun x => s.apu.pushed <+: x.pushed) (fun _ _ hx => hx) (fun x k v hx => ?_)
    (fun x depth n _ hx => hx.trans (Apu.cycle_pushed Config.audio depth n x).1) List.prefix_rfl
  rw [(x.write_soundWrite k v).pushed_waveRam.1]
  exact hx

/-- Settles O9: the CPU's part of a step is one `CpuEffect`, and audio is only appended. -/
theorem stepCompletes : Obligations.StepCompletes := by
  unfold Obligations.StepCompletes
  intro s
  rcases tick_effect (deliver s) with ⟨hm, h⟩ | ⟨-, u, ⟨ws, r, c, -, rfl, hc, -⟩, h⟩
  · exact ⟨_, h, step_pushed h, .inl hm⟩
  · exact ⟨_, h, step_pushed h, .inr ⟨_, rfl, hc⟩⟩

end Sys2Proof.Machine
end

section
/-! The memory an instruction leaves unchanged: its byte stores by opcode, and what a byte store leaves unread
(20_memory.md R63, R79). -/

namespace Sys2Proof.Machine

open Sys2Proof

/-! An instruction's stores. -/

/-- The step from `s` to `t` stores one byte at each of the addresses `as`, in order, and changes no more than the CPU
besides. -/
def StoresAt (as : List Word) (s t : State) : Prop :=
  ∃ (vs : List Byte) (c : Cpu), vs.length = as.length ∧ t = (afterStores s (as.zip vs)).setCpu c

theorem StoresAt.none {s t : State} (h : t = s.setCpu t.cpu := by rfl) : StoresAt [] s t := ⟨[], t.cpu, rfl, h⟩

theorem StoresAt.one (s : State) (a : Word) (v : Byte) (c : Cpu) : StoresAt [a] s ((write8 s a v).setCpu c) :=
  ⟨[v], c, rfl, rfl⟩

theorem StoresAt.pushed (s : State) (v : Word) (c : Cpu) : StoresAt (pushAddrs s) s ((pushedBytes s v).setCpu c) :=
  ⟨[lowByte v, highByte v], c, rfl, rfl⟩

theorem StoresAt.setCpu {as : List Word} {s t : State} (h : StoresAt as s t) (c : Cpu) :
    StoresAt as s (t.setCpu c) := by
  obtain ⟨vs, -, hl, rfl⟩ := h
  exact ⟨vs, c, hl, rfl⟩

/-- The stores seen from a state with other CPU registers. -/
theorem StoresAt.ofSetCpu {as : List Word} {s t : State} {d : Cpu} (h : StoresAt as (s.setCpu d) t) :
    StoresAt as s t := by
  obtain ⟨vs, c, hl, rfl⟩ := h
  exact ⟨vs, c, hl, by rw [afterStores_setCpu]; rfl⟩

theorem StoresAt.cast {as bs : List Word} {s t : State} (h : StoresAt as s t) (hb : bs = as) : StoresAt bs s t := hb ▸ h

/-- The addresses by opcode bytes, operand word and operand byte: `storeAddrs`, to be evaluated at numbers. -/
def opcodeStores (op op2 : Nat) (word : Word) (byte : Byte) (s : State) : List Word :=
  if op = 0xCB then
    if op2 % 8 = 6 ∧ op2 / 64 ≠ 1 then [s.cpu.atHL] else []
  else if op = 0x02 then [s.cpu.b ++ s.cpu.c]
  else if op = 0x12 then [s.cpu.d ++ s.cpu.e]
  else if op = 0x22 ∨ op = 0x32 ∨ op = 0x34 ∨ op = 0x35 ∨ op = 0x36 then [s.cpu.atHL]
  else if op = 0x08 then [word, word + 1#16]
  else if op / 8 = 0x0E ∧ op ≠ 0x76 then [s.cpu.atHL]
  else if op = 0xE0 then [0xFF#8 ++ byte]
  else if op = 0xE2 then [0xFF#8 ++ s.cpu.c]
  else if op = 0xEA then [word]
  else if op = 0xC5 ∨ op = 0xD5 ∨ op = 0xE5 ∨ op = 0xF5 then pushAddrs s
  else if op = 0xCD then pushAddrs s
  else if op = 0xC4 then if s.cpu.holds .nz then pushAddrs s else []
  else if op = 0xCC then if s.cpu.holds .z then pushAddrs s else []
  else if op = 0xD4 then if s.cpu.holds .nc then pushAddrs s else []
  else if op = 0xDC then if s.cpu.holds .c then pushAddrs s else []
  else if op / 64 = 3 ∧ op % 8 = 7 then pushAddrs s
  else []

theorem storeAddrs_eq (i : Instr) (s : State) :
    storeAddrs i s = opcodeStores (opcodeOf i) (opcode2Of i s) (operandWordOf i) ((encode i).getD 1 0#8) s := rfl

/-- An extended instruction stores at `HL`, unless it is a `BIT` or its operand a register. -/
theorem opcodeStores_extended (op2 : Nat) (word : Word) (byte : Byte) (s : State) :
    opcodeStores 0xCB op2 word byte s = if op2 % 8 = 6 ∧ op2 / 64 ≠ 1 then [s.cpu.atHL] else [] := rfl

/-- Stores given by an opcode byte. -/
theorem StoresAt.ofOpcode {as : List Word} {i : Instr} {s t : State} (h : StoresAt as s t) (op : Nat)
    (ho : opcodeOf i = op)
    (hs : opcodeStores op (opcode2Of i s) (operandWordOf i) ((encode i).getD 1 0#8) s = as) :
    StoresAt (storeAddrs i s) s t :=
  h.cast (by rw [storeAddrs_eq, ho, hs])

/-- Stores given by an extended opcode byte. -/
theorem StoresAt.ofExtended {as : List Word} {i : Instr} {s t : State} (h : StoresAt as s t) (op2 : Nat)
    (hi : opcodeOf i = 0xCB ∧ opcode2Of i s = op2 ∧
      opcodeStores 0xCB op2 (operandWordOf i) ((encode i).getD 1 0#8) s = as) : StoresAt (storeAddrs i s) s t := by
  obtain ⟨ho, ho2, hs⟩ := hi
  exact h.ofOpcode 0xCB ho (by rw [ho2, hs])

/-! The operations that store. -/

theorem storeAt_storesAt (a : Word) (v : Byte) (n : Nat) (s : State) : StoresAt [a] s (storeAt a v n s) := by
  rw [storeAt_eq]
  exact .one s a v _

theorem storeAThenMoveHL_storesAt (d : Word) (s : State) : StoresAt [s.cpu.atHL] s (storeAThenMoveHL d s) := by
  rw [storeAThenMoveHL_eq rfl]
  exact .one s _ _ _

theorem storeSp_storesAt (a : Word) (s : State) : StoresAt [a, a + 1#16] s (storeSp a s) := by
  rw [storeSp_eq, ← add_ofNat_eq_ofNat]
  exact ⟨[lowByte s.cpu.sp, highByte s.cpu.sp], _, rfl, rfl⟩

theorem pushPair_storesAt (q : Pair) (s : State) : StoresAt (pushAddrs s) s (pushPair q s) := by
  rw [pushPair, push16_eq, write16_eq_pushedBytes]
  exact (StoresAt.pushed s _ _).setCpu _

theorem call_storesAt (a : Word) (n : Nat) (s : State) : StoresAt (pushAddrs s) s (call a n s) := by
  rw [call_eq]
  exact .pushed s _ _

theorem callIf_storesAt (cc : Cond) (a : Word) (s : State) :
    StoresAt (if s.cpu.holds cc then pushAddrs s else []) s (callIf cc a s) := by
  rw [callIf_eq]
  split
  · exact .pushed s _ _
  · exact .none

/-- Where an operand is stored: nowhere for a register. -/
def operandStores (s : State) : Operand8 → List Word
  | .reg _ => []
  | .atHL => [s.cpu.atHL]

theorem putOperand_storesAt (o : Operand8) (v : Byte) (s : State) :
    StoresAt (operandStores s o) s (putOperand s o v) := by
  cases o with
  | reg r => exact .none
  | atHL => exact ⟨[v], (write8 s s.cpu.hl v).cpu, rfl, rfl⟩

/-! The operations that store nothing. -/

theorem jumpIf_storesAt (cc : Cond) (a : Word) (n m : Nat) (s : State) : StoresAt [] s (jumpIf cc a n m s) := by
  rw [jumpIf_eq]
  exact .none

theorem retIf_storesAt (cc : Cond) (s : State) : StoresAt [] s (retIf cc s) := by
  rw [retIf_eq]
  exact .none

/-- The unassigned bytes store nothing (46_system.md R268). -/
theorem storeAddrs_undefined {op : Byte} (h : (Instr.undefined op).wellFormed = true) (s : State) :
    storeAddrs (.undefined op) s = [] := by
  obtain rfl | rfl | rfl | rfl | rfl | rfl | rfl | rfl | rfl | rfl | rfl := (undefinedBytes_iff op).1 h <;> rfl

/-- Every family stores where its opcode says. -/
theorem Meaning.storesAt {i : Instr} {f : State → State} (h : Meaning i f) (hw : i.wellFormed = true) (s : State) :
    StoresAt (storeAddrs i s) s (f s) := by
  cases h with
  | ldRR dst src => exact .cast .none (by cases dst <;> cases src <;> rfl)
  | ldRImm dst v => exact .ofOpcode .none (8 * dst.code + 6) (by cases dst <;> rfl) (by cases dst <;> rfl)
  | ldRAtHL dst => exact .cast .none (by cases dst <;> rfl)
  | ldAtHLR src => exact (storeAt_storesAt _ _ _ s).cast (by cases src <;> rfl)
  | ldAAtBC | ldAAtDE | ldAAtC | ldAAtHLI | ldAAtHLD | ldSPHL => exact .cast .none rfl
  | ldAAtWord a => exact .ofOpcode .none 0xFA rfl rfl
  | ldhAAtByte a => exact .ofOpcode .none 0xF0 rfl rfl
  | ldAtBCA | ldAtDEA | ldAtCA => exact (storeAt_storesAt _ _ _ s).cast rfl
  | ldAtHLImm v => exact (storeAt_storesAt _ v _ s).ofOpcode 0x36 rfl rfl
  | ldAtWordA a =>
    exact (storeAt_storesAt a _ _ s).ofOpcode 0xEA rfl (congrArg (fun w => [w]) (hiByte_append_loByte a))
  | ldhAtByteA a => exact (storeAt_storesAt _ _ _ s).ofOpcode 0xE0 rfl rfl
  | ldAtHLIA | ldAtHLDA => exact (storeAThenMoveHL_storesAt _ s).cast rfl
  | ldRpImm rp v => exact .ofOpcode .none (16 * rp.code + 1) (by cases rp <;> rfl) (by cases rp <;> rfl)
  | ldAtWordSP a =>
    exact (storeSp_storesAt a s).ofOpcode 0x08 rfl
      (congrArg (fun w => [w, w + 1#16]) (hiByte_append_loByte a))
  | ldHLSPOffset e => exact .ofOpcode .none 0xF8 rfl rfl
  | pushRp2 rp => exact (pushPair_storesAt rp.pair s).cast (by cases rp <;> rfl)
  | popRp2 rp => exact .cast .none (by cases rp <;> rfl)
  | aluR op r => exact .cast .none (by cases op <;> cases r <;> rfl)
  | aluAtHL op => exact .cast .none (by cases op <;> rfl)
  | aluImm op v => exact .ofOpcode .none (0xC6 + 8 * op.code) (by cases op <;> rfl) (by cases op <;> rfl)
  | incR r | decR r => exact .cast .none (by cases r <;> rfl)
  | incAtHL | decAtHL => exact ((putOperand_storesAt .atHL _ s).setCpu _).cast rfl
  | daa | cpl | scf | ccf | rlca | rrca | rla | rra => exact .cast .none rfl
  | addHLRp rp | incRp rp | decRp rp => exact .cast .none (by cases rp <;> rfl)
  | addSPOffset e => exact .ofOpcode .none 0xE8 rfl rfl
  | rot op o =>
    exact ((putOperand_storesAt o _ s).setCpu _).ofExtended (8 * op.code + o.code)
      (by rcases o with ⟨⟨⟩⟩ | ⟨⟩ <;> cases op <;> exact ⟨rfl, rfl, rfl⟩)
  | bit b o =>
    exact .ofExtended .none (0x40 + 8 * b.toNat + o.code)
      (by rcases o with ⟨⟨⟩⟩ | ⟨⟩ <;> cases b <;> exact ⟨rfl, rfl, rfl⟩)
  | res b o =>
    exact ((putOperand_storesAt o _ s).setCpu _).ofExtended (0x80 + 8 * b.toNat + o.code)
      (by rcases o with ⟨⟨⟩⟩ | ⟨⟩ <;> cases b <;> exact ⟨rfl, rfl, rfl⟩)
  | set b o =>
    exact ((putOperand_storesAt o _ s).setCpu _).ofExtended (0xC0 + 8 * b.toNat + o.code)
      (by rcases o with ⟨⟨⟩⟩ | ⟨⟩ <;> cases b <;> exact ⟨rfl, rfl, rfl⟩)
  | jr e => exact .ofOpcode .none 0x18 rfl rfl
  | jrCc cc e =>
    exact (jumpIf_storesAt cc _ _ _ s).ofOpcode (0x20 + 8 * cc.code) (by cases cc <;> rfl) (by cases cc <;> rfl)
  | jp a => exact .ofOpcode .none 0xC3 rfl rfl
  | jpCc cc a =>
    exact (jumpIf_storesAt cc a _ _ s).ofOpcode (0xC2 + 8 * cc.code) (by cases cc <;> rfl) (by cases cc <;> rfl)
  | call a => exact (call_storesAt a _ s).ofOpcode 0xCD rfl rfl
  | callCc cc a =>
    exact (callIf_storesAt cc a s).ofOpcode (0xC4 + 8 * cc.code) (by cases cc <;> rfl) (by cases cc <;> rfl)
  | rst y => exact (call_storesAt _ _ s).cast (by cases y <;> rfl)
  | retCc cc => exact (retIf_storesAt cc s).cast (by cases cc <;> rfl)
  | jpHL | ret | reti | nop | halt | di | ei => exact .cast .none rfl
  | stop pad => exact .ofOpcode .none 0x10 rfl rfl
  | undefined op => exact .cast .none (storeAddrs_undefined hw s)

/-- The byte 0xCB alone stores where the extended instruction it runs does (46_system.md R266). -/
theorem storeAddrs_extended (s : State) :
    storeAddrs (extended (read8 s s.cpu.pc)) (advance s 1) = storeAddrs .prefixCB s := by
  have ho : opcodeOf (extended (read8 s s.cpu.pc)) = 0xCB := by
    rw [opcodeOf, encode_extended]
    rfl
  have hp : opcodeOf .prefixCB = 0xCB := rfl
  rw [storeAddrs_eq, storeAddrs_eq, ho, hp, opcodeStores_extended, opcodeStores_extended, opcode2Of_extended]
  rfl

/-- Every instruction stores where its opcode says. -/
theorem exec_storesAt {i : Instr} {s t : State} (hw : i.wellFormed = true) (h : exec i s = .next t) :
    StoresAt (storeAddrs i s) s t := by
  rcases eq_prefixCB_or_meaning hw with rfl | ⟨f, hf⟩
  · rw [exec_prefixCB, (extended_meaning _).exec_eq] at h
    injection h with h
    rw [← storeAddrs_extended, ← h]
    exact ((extended_meaning _).storesAt (wellFormed_extended _) (advance s 1)).ofSetCpu
  · rw [hf.exec_eq] at h
    injection h with h
    exact h ▸ hf.storesAt hw s

end Sys2Proof.Machine
end

section
/-! What a byte store leaves unread (20_memory.md R63, R70, R79): an address that the store does not touch reads as
before, by where the store is routed. -/

namespace Sys2Proof.Machine

open Sys2Proof

/-! `touches` as arithmetic on the two addresses. -/

/-- No byte stored at the address `a` can change what the address `b` reads (R63, R79). -/
structure Untouched (a b : Nat) : Prop where
  rom : a < 0x8000 → ¬(0x4000 ≤ b ∧ b < 0x8000) ∧ ¬(0xA000 ≤ b ∧ b < 0xC000)
  ext : 0xA000 ≤ a ∧ a < 0xC000 → ¬(0xA000 ≤ b ∧ b < 0xC000)
  wram : 0xC000 ≤ a ∧ a < 0xFE00 → ¬(0xC000 ≤ b ∧ b < 0xFE00 ∧ a % 0x2000 = b % 0x2000)
  sound : 0xFF10 ≤ a ∧ a < 0xFF40 → ¬(0xFF10 ≤ b ∧ b < 0xFF40)
  tima : a = 0xFF04 ∨ a = 0xFF07 → b ≠ 0xFF05
  lcdc : a = 0xFF40 → b ≠ 0xFF41 ∧ b ≠ 0xFF44 ∧ ¬(0x8000 ≤ b ∧ b < 0xA000) ∧ ¬(0xFE00 ≤ b ∧ b < 0xFEA0)
  lyc : a = 0xFF45 → b ≠ 0xFF41
  dma : a = 0xFF46 → ¬(0xFE00 ≤ b ∧ b < 0xFEA0)
  ne : 0x8000 ≤ a → b ≠ a

theorem untouched_of_touches {a b : Word} (h : touches a b = false) : Untouched a.toNat b.toNat := by
  unfold touches at h
  simp only [within, ← BitVec.toNat_inj, BitVec.toNat_ofNat] at h
  split_ifs at h <;>
    simp only [Bool.or_eq_false_iff, Bool.and_eq_false_iff, Bool.and_eq_true, decide_eq_true_eq,
      decide_eq_false_iff_not, beq_eq_false_iff_ne, ne_eq, ← BitVec.toNat_inj, BitVec.toNat_ofNat] at * <;>
    constructor <;> omega

/-! The ports of the I/O page, both ways. -/

/-- The low byte `k` is one of the owner's (R70). -/
def Port.Serves (k : Nat) : Port → Prop
  | .joypad => k = 0x00
  | .timer j => k = 0x04 + j ∧ j < 4
  | .intFlag => k = 0x0F
  | .sound j => k = j ∧ 0x10 ≤ k ∧ k < 0x40
  | .video j => k = j ∧ 0x40 ≤ k ∧ k < 0x4C ∧ k ≠ 0x46
  | .dma => k = 0x46
  | .unmapped => ¬(0x10 ≤ k ∧ k < 0x4C)

theorem port_serves {k : Nat} {p : Port} (h : port k = p) : p.Serves k := by
  subst h
  unfold port
  split_ifs <;> unfold Port.Serves <;> omega

/-! What a read looks at: one owner of state, and of it one register or byte. -/

/-- A read of the cartridge's two windows looks at the cartridge. -/
theorem read8_congr_cart {s : State} {x : Cart} {b : Word} (hrom : ∀ k, route b = .rom k → x.read k = s.cart.read k)
    (hext : ∀ k, route b = .ext k → x.readRam k = s.cart.readRam k) : read8 { s with cart := x } b = read8 s b := by
  cases hb : route b with
  | rom k => simpa only [read8, hb] using hrom k hb
  | ext k => simpa only [read8, hb] using hext k hb
  | io k => simp only [read8, hb, readPort]
  | vram | wram | oam | unusable | hram | ie => simp only [read8, hb]

/-- A read of VRAM, OAM or a port of the PPU looks at the PPU. -/
theorem read8_congr_video {s : State} {p : Ppu} {b : Word}
    (hv : ∀ k, route b = .vram k → p.readVram k = s.ppu.readVram k)
    (ho : ∀ k, route b = .oam k → p.readOam k = s.ppu.readOam k)
    (hp : ∀ k, route b = .io k → port k = .video k → p.read k = s.ppu.read k) :
    read8 { s with ppu := p } b = read8 s b := by
  cases hb : route b with
  | vram k => simp only [read8_vram hb, hv k hb]
  | oam k => simp only [read8_oam hb, ho k hb]
  | io k =>
    simp only [read8_io hb, readPort]
    cases hq : port k with
    | video j =>
      obtain ⟨rfl, -⟩ := port_serves hq
      exact hp k hb hq
    | joypad | timer | intFlag | sound | dma | unmapped => rfl
  | rom | ext | wram | unusable | hram | ie => simp only [read8, hb]

/-- The other registers answer at their own ports. -/
theorem read8_congr_port {s t : State} {b : Word} (hcart : t.cart = s.cart) (hppu : t.ppu = s.ppu)
    (hwram : t.bus.wram = s.bus.wram) (hhram : t.bus.hram = s.bus.hram) (hie : t.bus.ie = s.bus.ie)
    (hport : ∀ k, route b = .io k → readPort t k = readPort s k) : read8 t b = read8 s b := by
  cases hb : route b with
  | io k => simpa only [read8_io hb] using hport k hb
  | rom | ext => simp only [read8, hb, hcart]
  | vram | oam => simp only [read8, hb, hppu]
  | wram => simp only [read8, hb, hwram]
  | hram => simp only [read8, hb, hhram]
  | ie => simp only [read8, hb, hie]
  | unusable => simp only [read8, hb]

theorem readPort_joypad_ne {k : Nat} (hk : k ≠ 0x00) (s : State) (x : Joypad) :
    readPort { s with joypad := x } k = readPort s k := by
  unfold readPort
  cases hp : port k with
  | joypad => exact absurd (port_serves hp) hk
  | timer | intFlag | sound | video | dma | unmapped => rfl

theorem readPort_intFlag_ne {k : Nat} (hk : k ≠ 0x0F) (s : State) (r : BitVec 5) :
    readPort { s with bus := { s.bus with ifReg := r } } k = readPort s k := by
  unfold readPort
  cases hp : port k with
  | intFlag => exact absurd (port_serves hp) hk
  | joypad | timer | sound | video | dma | unmapped => rfl

theorem readPort_dma_ne {k : Nat} (hk : k ≠ 0x46) (s : State) (v : Byte) :
    readPort { s with bus := { s.bus with dmaReg := v } } k = readPort s k := by
  unfold readPort
  cases hp : port k with
  | dma => exact absurd (port_serves hp) hk
  | joypad | timer | intFlag | sound | video | unmapped => rfl

theorem readPort_sound_ne {k : Nat} (hk : ¬(0x10 ≤ k ∧ k < 0x40)) (s : State) (x : Apu) :
    readPort { s with apu := x } k = readPort s k := by
  unfold readPort
  cases hp : port k with
  | sound j => exact absurd (port_serves hp).2 hk
  | joypad | timer | intFlag | video | dma | unmapped => rfl

theorem readPort_timer_ne {k : Nat} {s : State} {x : Timer}
    (h : ∀ j, k = 0x04 + j → j < 4 → x.read j = s.timer.read j) :
    readPort { s with timer := x } k = readPort s k := by
  unfold readPort
  cases hp : port k with
  | timer j =>
    obtain ⟨hk, hj⟩ := port_serves hp
    exact h j hk hj
  | joypad | intFlag | sound | video | dma | unmapped => rfl

/-! What a register write leaves of its owner's other registers. -/

/-- An increment of TIMA leaves the other registers (61_timer.md R327). -/
theorem Timer.read_bumpIf {j : Nat} (hj : j ≠ 1) (fell : Bool) (t : Timer) : (bumpIf fell t).read j = t.read j := by
  unfold bumpIf Timer.read
  split
  case h_2 => exact absurd rfl hj
  all_goals split_ifs <;> rfl

/-- A write of a Timer register shows in that register alone, one of DIV or TAC in TIMA too (R322 to R325). -/
theorem Timer.read_write_ne (t : Timer) {i j : Nat} (hi : i < 4) (hj : j < 4) (hne : j ≠ i)
    (htima : i = 0 ∨ i = 3 → j ≠ 1) (v : Byte) : (t.write i v).read j = t.read j := by
  obtain rfl | rfl | rfl | rfl : i = 0 ∨ i = 1 ∨ i = 2 ∨ i = 3 := by omega
  · show t.writeDiv.read j = _
    rw [Timer.writeDiv, Timer.edgeFrom_eq_bumpIf, Timer.read_bumpIf (htima (.inl rfl))]
    unfold Timer.read
    split
    case h_1 => exact absurd rfl hne
    all_goals rfl
  · unfold Timer.read
    split
    case h_2 => exact absurd rfl hne
    all_goals rfl
  · unfold Timer.read
    split
    case h_3 => exact absurd rfl hne
    all_goals rfl
  · show (t.writeTac v).read j = _
    rw [Timer.writeTac, Timer.edgeFrom_eq_bumpIf, Timer.read_bumpIf (htima (.inr rfl))]
    unfold Timer.read
    split
    case h_4 h0 h1 h2 =>
      simp only [imp_false] at h0 h1 h2
      omega
    all_goals rfl

/-- Switching the LCD shows in LCDC, STAT and LY alone (62_ppu.md R342, R352). -/
theorem Ppu.read_writeLcdc_ne (p : Ppu) {i : Nat} (h : i ≠ 0x40 ∧ i ≠ 0x41 ∧ i ≠ 0x44) (v : Byte) :
    (p.writeLcdc v).read i = p.read i := by
  unfold Ppu.writeLcdc
  split_ifs
  all_goals
    unfold Ppu.read
    split
    case h_1 => exact absurd rfl h.1
    case h_2 => exact absurd rfl h.2.1
    case h_5 => exact absurd rfl h.2.2
    all_goals rfl

/-- A write of a PPU register shows in that register alone, one of LCDC in STAT and LY too, one of LYC in STAT too
(R342 to R346). -/
theorem Ppu.read_write_ne (p : Ppu) {i j : Nat} (hne : i ≠ j) (hlcdc : j = 0x40 → i ≠ 0x41 ∧ i ≠ 0x44)
    (hlyc : j = 0x45 → i ≠ 0x41) (v : Byte) : (p.write j v).read i = p.read i := by
  unfold Ppu.write
  split
  case h_1 => exact p.read_writeLcdc_ne ⟨hne, hlcdc rfl⟩ v
  case h_5 =>
    unfold Ppu.read
    split
    case h_2 => exact absurd rfl (hlyc rfl)
    case h_6 => exact absurd rfl hne
    all_goals rfl
  case h_11 => rfl
  -- each of the other registers is one field, which no other register reads
  all_goals
    unfold Ppu.read
    split
    any_goals rfl
    exact absurd rfl hne

/-- Only LCDC's switch moves the gates of VRAM and OAM (R342, R352). -/
theorem Ppu.gates_write_ne (p : Ppu) {j : Nat} (hj : j ≠ 0x40) (v : Byte) (k : Nat) :
    (p.write j v).readVram k = p.readVram k ∧ (p.write j v).readOam k = p.readOam k := by
  unfold Ppu.write
  split
  case h_1 => exact absurd rfl hj
  all_goals exact ⟨rfl, rfl⟩

/-- A write to the external RAM's window shows in no ROM byte (21_cartridge.md R103). -/
theorem Cart.read_writeRam (k : Cart) (a : Nat) (v : Byte) (addr : Nat) : (k.writeRam a v).read addr = k.read addr := by
  obtain ⟨m, r, d, he, -, -, hbank⟩ := k.writeRam_eq a v
  rw [he]
  simp only [Cart.read, Cart.romOffset, Cart.romByte, hbank]

/-- A register write shows in no byte of the fixed bank (R103). -/
theorem Cart.read_write_fixed (k : Cart) (a : Nat) (v : Byte) {addr : Nat} (h : addr < 0x4000) :
    (k.write a v).read addr = k.read addr := by
  simp only [Cart.read, Cart.romOffset, if_pos h, Cart.write, Cart.romByte]

/-! The store by its route. -/

/-- A store to an I/O register. -/
theorem read8_write8_io_untouched {a b : Word} {k : Nat} (hr : route a = .io k) (h : Untouched a.toNat b.toNat)
    (s : State) (v : Byte) : read8 (write8 s a v) b = read8 s b := by
  have ha : a.toNat = 0xFF00 + k := by
    obtain ⟨h1, -, h3⟩ := route_eq_iff.1 hr
    omega
  have hio : ∀ {j}, route b = .io j → b.toNat = 0xFF00 + j := by
    intro j hj
    obtain ⟨h1, -, h3⟩ := route_eq_iff.1 hj
    omega
  have hne : ∀ {j}, route b = .io j → j ≠ k := by
    rintro j hj rfl
    exact h.ne (by omega) ((hio hj).trans ha.symm)
  rw [write8_io hr, writePort]
  cases hp : port k with
  | joypad =>
    have hs : k = 0x00 := port_serves hp
    exact read8_congr_port rfl rfl rfl rfl rfl fun j hj => readPort_joypad_ne (hs ▸ hne hj) s _
  | intFlag =>
    have hs : k = 0x0F := port_serves hp
    exact read8_congr_port rfl rfl rfl rfl rfl fun j hj => readPort_intFlag_ne (hs ▸ hne hj) s _
  | timer i =>
    obtain ⟨rfl, hi⟩ := port_serves hp
    refine read8_congr_port rfl rfl rfl rfl rfl fun j hj => readPort_timer_ne fun m hm hm' => ?_
    subst hm
    refine s.timer.read_write_ne hi hm' (fun e => hne hj (e ▸ rfl)) (fun hdiv e => ?_) v
    exact h.tima (by omega) ((hio hj).trans (e ▸ rfl))
  | sound i =>
    obtain ⟨-, hlo, hhi⟩ := port_serves hp
    refine read8_congr_port rfl rfl rfl rfl rfl fun j hj => readPort_sound_ne ?_ s _
    have hout := h.sound (by omega)
    rw [hio hj] at hout
    omega
  | video i =>
    obtain ⟨rfl, -⟩ := port_serves hp
    have hoff : 0x8000 ≤ b.toNat ∧ b.toNat < 0xA000 ∨ 0xFE00 ≤ b.toNat ∧ b.toNat < 0xFEA0 → k ≠ 0x40 := by
      rintro hb rfl
      obtain ⟨-, -, hv, ho⟩ := h.lcdc ha
      exact hb.elim hv ho
    refine read8_congr_video (fun j hj => ?_) (fun j hj => ?_) fun j hj _ => ?_
    · obtain ⟨h1, h2, -⟩ := route_eq_iff.1 hj
      exact (s.ppu.gates_write_ne (hoff (.inl ⟨h1, h2⟩)) v j).1
    · obtain ⟨h1, h2, -⟩ := route_eq_iff.1 hj
      exact (s.ppu.gates_write_ne (hoff (.inr ⟨h1, h2⟩)) v j).2
    · refine s.ppu.read_write_ne (hne hj) ?_ ?_ v
      · rintro rfl
        obtain ⟨h1, h2, -, -⟩ := h.lcdc ha
        exact ⟨fun e => h1 ((hio hj).trans (e ▸ rfl)), fun e => h2 ((hio hj).trans (e ▸ rfl))⟩
      · rintro rfl
        exact fun e => h.lyc ha ((hio hj).trans (e ▸ rfl))
  | dma =>
    have hs : k = 0x46 := port_serves hp
    obtain ⟨r, he⟩ := oamDma_eq s v
    show read8 (oamDma s v) b = read8 s b
    rw [he]
    refine (read8_congr_oam (s := { s with bus := { s.bus with dmaReg := v } }) fun j hj => ?_).trans
      (read8_congr_port rfl rfl rfl rfl rfl fun j hj => readPort_dma_ne (hs ▸ hne hj) s v)
    obtain ⟨h1, h2, -⟩ := route_eq_iff.1 hj
    exact absurd ⟨h1, h2⟩ (h.dma (by omega))
  | unmapped => rfl

/-- A byte store leaves what it does not touch. -/
theorem read8_write8_untouched {a b : Word} (h : Untouched a.toNat b.toNat) (s : State) (v : Byte) :
    read8 (write8 s a v) b = read8 s b := by
  have hba : 0x8000 ≤ a.toNat → b ≠ a := fun hlo he => h.ne hlo (he ▸ rfl)
  cases hr : route a with
  | rom k =>
    obtain ⟨hlt, rfl⟩ := route_eq_iff.1 hr
    obtain ⟨hbank, hram⟩ := h.rom hlt
    simp only [write8, hr]
    refine read8_congr_cart (fun j hj => ?_) fun j hj => ?_
    · obtain ⟨h1, rfl⟩ := route_eq_iff.1 hj
      exact s.cart.read_write_fixed _ v (by omega)
    · obtain ⟨h1, h2, -⟩ := route_eq_iff.1 hj
      exact absurd ⟨h1, h2⟩ hram
  | ext k =>
    obtain ⟨hlo, hhi, -⟩ := route_eq_iff.1 hr
    simp only [write8, hr]
    refine read8_congr_cart (fun j hj => s.cart.read_writeRam _ v j) fun j hj => ?_
    obtain ⟨h1, h2, -⟩ := route_eq_iff.1 hj
    exact absurd ⟨h1, h2⟩ (h.ext ⟨hlo, hhi⟩)
  | wram k =>
    obtain ⟨hlo, hhi, hk⟩ := route_eq_iff.1 hr
    refine read8_write8_wram_ne hr (fun hb => ?_) v
    obtain ⟨h1, h2, h3⟩ := route_eq_iff.1 hb
    exact h.wram ⟨hlo, hhi⟩ ⟨h1, h2, hk.symm.trans h3⟩
  | hram k =>
    obtain ⟨hlo, -, -⟩ := route_eq_iff.1 hr
    exact read8_write8_hram_ne hr (fun hb => hba (by omega) (eq_of_route_eq hr hb trivial)) v
  | vram k =>
    obtain ⟨hlo, -, -⟩ := route_eq_iff.1 hr
    by_cases hm : s.ppu.mode = .pixelTransfer
    · rw [(vram_closed hr hm v).2]
    · exact read8_write8_vram_ne hr hm (hba hlo) v
  | oam k =>
    obtain ⟨hlo, -, -⟩ := route_eq_iff.1 hr
    by_cases hm : s.ppu.mode ≠ .pixelTransfer ∧ s.ppu.mode ≠ .oamScan
    · exact read8_write8_oam_ne hr hm (hba (by omega)) v
    · rw [(oam_closed hr ((not_and_or.1 hm).imp not_not.1 not_not.1) v).2]
  | unusable => rw [(unusable_absent hr s v).2]
  | io k => exact read8_write8_io_untouched hr h s v
  | ie =>
    have hlo : 0xFFFF ≤ a.toNat := route_eq_iff.1 hr
    simp only [write8, hr]
    cases hb : route b with
    | ie => exact absurd (eq_of_route_eq hr hb trivial) (hba (by omega))
    | io j => simp only [read8, hb, readPort]
    | rom | vram | ext | wram | oam | unusable | hram => simp only [read8, hb]

theorem read8_afterStores_untouched {b : Word} {ws : List (Word × Byte)} (h : ∀ w ∈ ws, touches w.1 b = false)
    (s : State) : read8 (afterStores s ws) b = read8 s b := by
  induction ws generalizing s with
  | nil => rfl
  | cons w ws ih =>
    obtain ⟨hw, hws⟩ := List.forall_mem_cons.1 h
    exact (ih hws _).trans (read8_write8_untouched (untouched_of_touches hw) s w.2)

/-- Settles O37: the stores of `exec_storesAt`, each of which leaves what it does not touch. -/
theorem frameMemory : Obligations.FrameMemory := by
  unfold Obligations.FrameMemory
  intro i s t hw h
  obtain ⟨vs, c, hl, rfl⟩ := exec_storesAt hw h
  refine ⟨⟨vs, hl, rfl⟩, fun hnil => ?_, fun b hb => ?_⟩
  · rw [hnil]
    rfl
  · rw [read8_setCpu]
    exact read8_afterStores_untouched (fun w hmem => hb w.1 (List.of_mem_zip hmem).1) s

end Sys2Proof.Machine
end

section
/-! The 8-bit arithmetic and logic (42_alu8.md): results and flags of bytes as those of their numbers, then each
operation's whole effect in every operand form. -/

namespace Sys2Proof.Machine

open Sys2Proof

/-! Bytes and their numbers. -/

/-- A byte given by its number is zero where the number is, modulo 256. -/
theorem beq_zero_eq_decide_mod (n : Nat) : (BitVec.ofNat 8 n == 0#8) = decide (n % 256 = 0) :=
  decide_eq_decide.mpr (BitVec.toNat_eq (x := BitVec.ofNat 8 n) (y := 0#8))

/-- Congruent numbers give one byte, also where one of them is negative. -/
theorem ofInt_eq_ofNat_of_emod_eq {x : Int} {n : Nat} (h : x % 256 = n % 256) :
    BitVec.ofInt 8 x = BitVec.ofNat 8 n := by
  apply BitVec.eq_of_toNat_eq
  rw [BitVec.toNat_ofInt, BitVec.toNat_ofNat]
  omega

/-- One more, modulo 256. -/
theorem add_one_eq_ofNat (v : Byte) : v + 1#8 = BitVec.ofNat 8 (v.toNat + 1) := by
  rw [BitVec.ofNat_add, BitVec.ofNat_toNat, BitVec.setWidth_eq]

/-- One less is 255 more, modulo 256. -/
theorem sub_one_eq_ofNat (v : Byte) : v - 1#8 = BitVec.ofNat 8 (v.toNat + 255) := by
  rw [BitVec.ofNat_add, BitVec.ofNat_toNat, BitVec.setWidth_eq]
  exact sub_eq_add_neg v 1#8

/-- The complement of a byte. -/
theorem xor_ones_eq_ofNat (v : Byte) : v ^^^ 0xFF#8 = BitVec.ofNat 8 (255 - v.toNat) := by
  have hnot : v ^^^ 0xFF#8 = ~~~v := BitVec.xor_allOnes
  apply BitVec.eq_of_toNat_eq
  rw [hnot, BitVec.toNat_not, BitVec.toNat_ofNat]
  omega

/-! The accumulator operations, by result and flags. -/

/-- `a + v + c` of numbers (R190, R191). -/
theorem aluAdd_eq (a v : Byte) (c : Bool) :
    aluAdd a v c = (BitVec.ofNat 8 (a.toNat + v.toNat + c.toNat),
      ⟨decide ((a.toNat + v.toNat + c.toNat) % 256 = 0), false,
        decide (0x0F < a.toNat % 16 + v.toNat % 16 + c.toNat), decide (0xFF < a.toNat + v.toNat + c.toNat)⟩) := by
  rw [aluAdd, lowNibble_eq_mod, lowNibble_eq_mod]

/-- `a - v - c` of numbers, modulo 256 (R192, R193). -/
theorem aluSub_eq (a v : Byte) (c : Bool) :
    aluSub a v c = (BitVec.ofNat 8 (a.toNat + 256 - (v.toNat + c.toNat)),
      ⟨decide ((a.toNat + 256 - (v.toNat + c.toNat)) % 256 = 0), true,
        decide (a.toNat % 16 < v.toNat % 16 + c.toNat), decide (a.toNat < v.toNat + c.toNat)⟩) := by
  have hc := Bool.toNat_le c
  have hdiff : BitVec.ofInt 8 ((a.toNat : Int) - v.toNat - c.toNat) =
      BitVec.ofNat 8 (a.toNat + 256 - (v.toNat + c.toNat)) := ofInt_eq_ofNat_of_emod_eq (by omega)
  rw [aluSub, lowNibble_eq_mod, lowNibble_eq_mod, hdiff, beq_zero_eq_decide_mod]

/-- Without an incoming borrow the difference is zero where the operands are equal (R192, R197). -/
theorem aluSub_false_eq (a v : Byte) :
    aluSub a v false = (BitVec.ofNat 8 (a.toNat + 256 - v.toNat),
      ⟨decide (a.toNat = v.toNat), true, decide (a.toNat % 16 < v.toNat % 16), decide (a.toNat < v.toNat)⟩) := by
  have hzero : decide ((a.toNat + 256 - v.toNat) % 256 = 0) = decide (a.toNat = v.toNat) :=
    decide_eq_decide.mpr (by omega)
  rw [← hzero]
  exact aluSub_eq a v false

/-- A form's meaning is the accumulator operation on the form's operand. -/
theorem AluForm.meaning (form : AluForm) (op : AluOp) :
    Meaning (form.instr op) (fun s => aluOnA op (form.value s) form.cycles s) := by
  cases form with
  | reg r => exact .aluR op r
  | mem => exact .aluAtHL op
  | imm v => exact .aluImm op v

/-- A form's bytes and whole effect, by the operation's result and flags (R206). -/
theorem AluForm.encode_exec {form : AluForm} {op : AluOp} {s : State} {r : Byte} {z n h c : Bool}
    (halu : alu op s.cpu.a (form.value s) s.cpu.flags = (r, ⟨z, n, h, c⟩)) :
    encode (form.instr op) = form.bytes op ∧
      exec (form.instr op) s = .next (s.setCpu { s.cpu with
        a := r, f := flagByte z n h c, cycles := form.cycles }) := by
  refine (form.meaning op).encode_exec (encodes_alu op form) ?_
  rw [aluOnA, halu, ← Flags.pack_eq_flagByte ⟨z, n, h, c⟩]
  rfl

/-! Increment and decrement (R198 to R201). -/

theorem incByte_eq (v : Byte) (g : Flags) :
    incByte v g = (BitVec.ofNat 8 (v.toNat + 1),
      ⟨decide (v.toNat = 255), false, decide (v.toNat % 16 = 15), g.c⟩) := by
  have hzero : decide ((v.toNat + 1) % 256 = 0) = decide (v.toNat = 255) := decide_eq_decide.mpr (by omega)
  rw [incByte, lowNibble_eq_mod, add_one_eq_ofNat, beq_zero_eq_decide_mod, hzero]
  rfl

theorem decByte_eq (v : Byte) (g : Flags) :
    decByte v g = (BitVec.ofNat 8 (v.toNat + 255),
      ⟨decide (v.toNat = 1), true, decide (v.toNat % 16 = 0), g.c⟩) := by
  have hzero : decide ((v.toNat + 255) % 256 = 0) = decide (v.toNat = 1) := decide_eq_decide.mpr (by omega)
  rw [decByte, lowNibble_eq_mod, sub_one_eq_ofNat, beq_zero_eq_decide_mod, hzero]
  rfl

/-- `INC`: the result to the operand, then `F` and the cycles. -/
theorem incOperand_eq {o : Operand8} {s : State} {v : Nat} (hv : v = (getOperand s o).toNat) (n : Nat) :
    incOperand o n s = (putOperand s o (BitVec.ofNat 8 (v + 1))).onCpu (fun p => { p with
      f := flagByte (decide (v = 255)) false (decide (v % 16 = 15)) s.cpu.cf, cycles := n }) := by
  rw [incOperand, incByte_eq, hv, ← Flags.pack_eq_flagByte ⟨_, _, _, _⟩]
  rfl

/-- `DEC`: the result to the operand, then `F` and the cycles. -/
theorem decOperand_eq {o : Operand8} {s : State} {v : Nat} (hv : v = (getOperand s o).toNat) (n : Nat) :
    decOperand o n s = (putOperand s o (BitVec.ofNat 8 (v + 255))).onCpu (fun p => { p with
      f := flagByte (decide (v = 1)) true (decide (v % 16 = 0)) s.cpu.cf, cycles := n }) := by
  rw [decOperand, decByte_eq, hv, ← Flags.pack_eq_flagByte ⟨_, _, _, _⟩]
  rfl

/-! The accumulator adjustments (R202 to R205). -/

/-- The adjusted number, reduced modulo 256: after a subtraction the adjustments are taken from it, after an addition
added to it. -/
theorem daaResult_fst_eq_emod (a : Byte) (g : Flags) :
    ((daaResult a.toNat g.n g.h g.c).1 : Int) = daaSum a g % 256 := by
  obtain ⟨z, n, h, c⟩ := g
  cases n with
  | true =>
    simp only [daaResult, daaSum]
    split_ifs <;> omega
  | false =>
    have hcarry : daaCarry a ⟨z, false, h, c⟩ = true ↔ c = true ∨ 0x99 < a.toNat := by simp [daaCarry]
    simp only [daaResult, daaSum, hcarry, lowNibble_eq_mod]
    push_cast
    rfl

theorem daaResult_snd_eq (a : Byte) (g : Flags) : (daaResult a.toNat g.n g.h g.c).2 = daaCarry a g := by
  obtain ⟨z, n, h, c⟩ := g
  cases n with
  | true => exact (Bool.or_false c).symm
  | false => rfl

/-- `DAA`, by result and flags (R202). -/
theorem daaAdjust_eq {a : Byte} {g : Flags} {r : Nat × Bool} (hr : r = daaResult a.toNat g.n g.h g.c) :
    daaAdjust a g = (BitVec.ofNat 8 r.1, ⟨decide (r.1 = 0), g.n, false, r.2⟩) := by
  have hfst : (r.1 : Int) = daaSum a g % 256 := hr ▸ daaResult_fst_eq_emod a g
  have hsnd : r.2 = daaCarry a g := hr ▸ daaResult_snd_eq a g
  have hbyte : BitVec.ofInt 8 (daaSum a g) = BitVec.ofNat 8 r.1 := ofInt_eq_ofNat_of_emod_eq (by omega)
  have hzero : decide (r.1 % 256 = 0) = decide (r.1 = 0) := decide_eq_decide.mpr (by omega)
  rw [daaAdjust, hbyte, beq_zero_eq_decide_mod, hzero, hsnd]

theorem decimalAdjust_eq {s : State} {r : Nat × Bool} (hr : r = daaResult s.cpu.a.toNat s.cpu.nf s.cpu.hf s.cpu.cf) :
    decimalAdjust s = s.setCpu { s.cpu with
      a := BitVec.ofNat 8 r.1, f := flagByte (decide (r.1 = 0)) s.cpu.nf false r.2, cycles := 4 } := by
  rw [decimalAdjust, daaAdjust_eq (g := s.cpu.flags) hr, ← Flags.pack_eq_flagByte ⟨_, _, _, _⟩]
  rfl

theorem complementA_eq (s : State) :
    complementA s = s.setCpu { s.cpu with
      a := BitVec.ofNat 8 (255 - s.cpu.a.toNat), f := flagByte s.cpu.zf true true s.cpu.cf, cycles := 4 } := by
  rw [complementA, xor_ones_eq_ofNat, ← Flags.pack_eq_flagByte ⟨_, _, _, _⟩]
  rfl

theorem setCarry_eq (s : State) :
    setCarry s = s.setCpu { s.cpu with f := flagByte s.cpu.zf false false true, cycles := 4 } := by
  rw [← Flags.pack_eq_flagByte ⟨_, _, _, _⟩]
  rfl

theorem complementCarry_eq (s : State) :
    complementCarry s = s.setCpu { s.cpu with f := flagByte s.cpu.zf false false (!s.cpu.cf), cycles := 4 } := by
  rw [← Flags.pack_eq_flagByte ⟨_, _, _, _⟩]
  rfl

/-! The obligations. -/

/-- Settles O22: both are one sum, `ADD` without an incoming carry. -/
theorem addWithCarry : Obligations.AddWithCarry := by
  unfold Obligations.AddWithCarry
  rintro form s _ _ _ rfl rfl rfl
  constructor
  · exact AluForm.encode_exec (aluAdd_eq s.cpu.a (form.value s) false)
  · exact AluForm.encode_exec (aluAdd_eq s.cpu.a (form.value s) s.cpu.cf)

/-- Settles O23: one difference; `SUB` and `CP` are without an incoming borrow, and `CP` drops the result. -/
theorem subtractAndCompare : Obligations.SubtractAndCompare := by
  unfold Obligations.SubtractAndCompare
  rintro form s _ _ _ _ rfl rfl rfl rfl
  have hsub := aluSub_false_eq s.cpu.a (form.value s)
  refine ⟨?sub, ?sbc, ?cp⟩
  case sub => exact AluForm.encode_exec hsub
  case sbc => exact AluForm.encode_exec (aluSub_eq s.cpu.a (form.value s) s.cpu.cf)
  case cp => exact AluForm.encode_exec (op := .cp) (r := s.cpu.a) (congrArg (fun q => (s.cpu.a, q.2)) hsub)

/-- Settles O24: result and flags are the model's own, in the statement's order. -/
theorem logic : Obligations.Logic := by
  unfold Obligations.Logic
  rintro form s _ rfl
  refine ⟨?and, ?xor, ?or⟩
  case and => exact AluForm.encode_exec (op := .and) rfl
  case xor => exact AluForm.encode_exec (op := .xor) rfl
  case or => exact AluForm.encode_exec (op := .or) rfl

/-- Settles O25: one effect for every operand; the store at `HL` writes no register. -/
theorem incrementDecrement : Obligations.IncrementDecrement := by
  unfold Obligations.IncrementDecrement
  constructor
  · intro r s v hv
    constructor
    · exact (Meaning.incR r).encode_exec (encodes_incR r) (incOperand_eq (o := .reg r) hv 4)
    · exact (Meaning.decR r).encode_exec (encodes_decR r) (decOperand_eq (o := .reg r) hv 4)
  · intro s v hv
    constructor
    · exact Meaning.incAtHL.encode_exec ⟨rfl, rfl⟩ ((incOperand_eq (o := .atHL) hv 12).trans (write8_onCpu ..))
    · exact Meaning.decAtHL.encode_exec ⟨rfl, rfl⟩ ((decOperand_eq (o := .atHL) hv 12).trans (write8_onCpu ..))

/-- Settles O26: each is one write of `A` and `F`, of `F` alone for the carry's two. -/
theorem accumulatorAdjust : Obligations.AccumulatorAdjust := by
  unfold Obligations.AccumulatorAdjust
  intro s r hr
  refine ⟨?daa, ?cpl, ?scf, ?ccf⟩
  case daa => exact Meaning.daa.encode_exec ⟨rfl, rfl⟩ (decimalAdjust_eq hr)
  case cpl => exact Meaning.cpl.encode_exec ⟨rfl, rfl⟩ (complementA_eq s)
  case scf => exact Meaning.scf.encode_exec ⟨rfl, rfl⟩ (setCarry_eq s)
  case ccf => exact Meaning.ccf.encode_exec ⟨rfl, rfl⟩ (complementCarry_eq s)

end Sys2Proof.Machine
end
